-- ==== Sys2Proof/Word.lean ====
section
/-! DEFINITION. The two widths of the CORE (R5, R38): a byte and a 16-bit word. -/

namespace Sys2Proof

/-- A byte: the source's "octet", a value of width 8 (R5). -/
abbrev Byte := BitVec 8

/-- A 16-bit value: the accumulator, a table word, a payload length (R11, R13, R31). -/
abbrev Word := BitVec 16

end Sys2Proof
end

