-- ==== Sys2Proof/Config.lean ====
section
/-! DEFINITION. The parameters of a CORE instance (R4): fixed when the instance is built, written by
no operation and by no reset (R16, R18). `N_INST` is the length of `Machine.Platform.cores`. -/

namespace Sys2Proof

/-- `LEN_HI_MODE` (R60, D2, OPEN): how the byte at frame offset 5 is formed. -/
inductive LenHiMode where
  /-- `CORRECT`: the high byte of `PLEN`, as the source's layout table has it. -/
  | correct
  /-- `LEGACY_ZERO`: always `0x00`, the source's "documented defect". -/
  | legacyZero
  deriving DecidableEq, Repr

/-- `CRC_TABLE` (R16, R31): 256 words of 16 bits, indexed by a byte. -/
abbrev CrcTable := Vector Word 256

/-- The parameters of R4 that belong to one instance. -/
structure Config where
  /-- `CRC_TABLE` (D1, OPEN). -/
  crcTable : CrcTable
  /-- `LEN_HI_MODE` (D2, OPEN). -/
  lenHiMode : LenHiMode
  /-- `CMD_ARG_W`: width of the signed command operand of `FRM.NEW` (D4). -/
  cmdArgW : Nat
  /-- `LEN_ARG_W`: width of the unsigned length operand of `FRM.NEW` (D4). -/
  lenArgW : Nat
  deriving DecidableEq, Repr

/-- The least widths D4 allows: at least 9 for `CMD_ARG_W`, at least 17 for `LEN_ARG_W`. -/
abbrev Config.wf (cfg : Config) : Prop := 9 ≤ cfg.cmdArgW ∧ 17 ≤ cfg.lenArgW

end Sys2Proof
end

