-- ==== Sys2Proof/Syntax.lean ====
section
/-! DEFINITION. The six operations of the CORE (R51) and the request record a host drives it with
(R50). -/

namespace Sys2Proof

/-- One constructor for each row of spec/opcode_table.json (R51), operands as R63 writes them. -/
inductive Instr where
  /-- `CRC.INIT` (R71). -/
  | crcInit
  /-- `CRC.UPD b` (R72). -/
  | crcUpd (b : Byte)
  /-- `CRC.RD` (R73). -/
  | crcRd
  /-- `FRM.NEW cmd, P` (R91): `cmd` is `signed(CMDARG)`, and `LENARG` is `len(P)` (R50). -/
  | frmNew (cmd : Int) (p : List Byte)
  /-- `FRM.SER` (R94). -/
  | frmSer
  /-- `FRM.DROP` (R95). -/
  | frmDrop
  deriving DecidableEq, Repr

/-- A request (R50): the selector, and every operand field any format has. `LENARG` is no field: it
"always equals `len(P)`". `cmdArg` is the field's value read as two's complement. -/
structure Request where
  /-- `OPSEL`, 4 bits, in every format. -/
  opsel : BitVec 4
  /-- `BYTE`, 8 bits, format B. -/
  byte : Byte
  /-- `CMDARG`, format N, read as signed. -/
  cmdArg : Int
  /-- `P`, format N: the payload that `FRM.NEW` reads through `SRC` (R33). -/
  src : List Byte
  deriving DecidableEq, Repr

end Sys2Proof
end

