-- ==== Sys2Proof/WellFormed.lean ====
section
/-! DEFINITION. Which operands a request can carry (R50, U12): the command operand fits `CMD_ARG_W`
bits signed and the length operand fits `LEN_ARG_W` bits unsigned. Out-of-range commands and lengths
that do fit are well-formed: `FRM.NEW` refuses them itself (R91). -/

namespace Sys2Proof

/-- `c` is a value of a two's complement field of `w` bits (R6). -/
def fitsSigned (w : Nat) (c : Int) : Bool :=
  decide (-(2 ^ (w - 1) : Int) ≤ c) && decide (c < (2 ^ (w - 1) : Int))

/-- `n` is a value of an unsigned field of `w` bits (R5). -/
def fitsUnsigned (w n : Nat) : Bool := decide (n < 2 ^ w)

/-- The instruction is one that a request of this instance can carry (R50, U12). -/
def Instr.wf (cfg : Config) (i : Instr) : Bool :=
  match i with
  | .crcInit => true
  | .crcUpd _ => true
  | .crcRd => true
  | .frmNew c p => fitsSigned cfg.cmdArgW c && fitsUnsigned cfg.lenArgW p.length
  | .frmSer => true
  | .frmDrop => true

end Sys2Proof
end

