-- ==== Sys2Proof/Decode.lean ====
section
/-! DEFINITION. From a request to an instruction and back (R50 to R56), in the record form of R50 and
in the packed 72-bit form of R52 (default widths). -/

namespace Sys2Proof

/-- The ten reserved selectors (R55). -/
def reservedSelectors : List (BitVec 4) :=
  [0x3, 0x4, 0x5, 0x6, 0x7, 0xB, 0xC, 0xD, 0xE, 0xF]

/-- Why a request carries no instruction. -/
inductive DecodeError where
  /-- `OPSEL` is one of the ten reserved codes (R55); the machine answers IllegalOperation (R123). -/
  | reservedSelector (opsel : BitVec 4)
  /-- A packed word whose `LENARG` differs from `len(P)`: such a request cannot be formed (R50). -/
  | payloadLength (lenArg len : Nat)
  deriving DecidableEq, Repr

/-- The operation a request selects (R51, R52). Operand fields its format does not list are dropped
(R56). -/
def decode (r : Request) : Except DecodeError Instr :=
  match r.opsel.toNat with
  | 0x0 => .ok .crcInit
  | 0x1 => .ok (.crcUpd r.byte)
  | 0x2 => .ok .crcRd
  | 0x8 => .ok (.frmNew r.cmdArg r.src)
  | 0x9 => .ok .frmSer
  | 0xA => .ok .frmDrop
  | _ => .error (.reservedSelector r.opsel)

/-- The request of an instruction (R51, R52), every field its format does not list zero or empty. -/
def encode (i : Instr) : Request :=
  match i with
  | .crcInit => ⟨0x0, 0, 0, []⟩
  | .crcUpd b => ⟨0x1, b, 0, []⟩
  | .crcRd => ⟨0x2, 0, 0, []⟩
  | .frmNew c p => ⟨0x8, 0, c, p⟩
  | .frmSer => ⟨0x9, 0, 0, []⟩
  | .frmDrop => ⟨0xA, 0, 0, []⟩

/-- Bits `[71:68]` of a packed request word (R52). -/
def wordOpsel (w : BitVec 72) : BitVec 4 := w.extractLsb' 68 4

/-- Bits `[63:32]` of a packed request word (R52). -/
def wordCmdArg (w : BitVec 72) : BitVec 32 := w.extractLsb' 32 32

/-- Bits `[31:0]` of a packed request word (R52). -/
def wordLenArg (w : BitVec 72) : BitVec 32 := w.extractLsb' 0 32

/-- Bits `[7:0]` of a packed request word (R52). -/
def wordByte (w : BitVec 72) : Byte := w.extractLsb' 0 8

/-- The request record of a packed word and the payload that travels with it (R50, R52). -/
def unpackRequest (w : BitVec 72) (p : List Byte) : Request :=
  ⟨wordOpsel w, wordByte w, (wordCmdArg w).toInt, p⟩

/-- Decoding a packed word and its payload. In format N, `LENARG` must equal `len(P)` (R50); the
other formats have no `LENARG` and no `P` (R52), and ignore both (R56). -/
def decodeWord (w : BitVec 72) (p : List Byte) : Except DecodeError Instr :=
  match decode (unpackRequest w p) with
  | .ok (.frmNew c q) =>
    if (wordLenArg w).toNat = q.length then .ok (.frmNew c q)
    else .error (.payloadLength (wordLenArg w).toNat q.length)
  | d => d

/-- A packed word from its fields: `OPSEL`, four unused bits, bits `[63:32]`, bits `[31:0]` (R52). -/
def packWord (opsel : BitVec 4) (hi lo : BitVec 32) : BitVec 72 :=
  opsel ++ (0#4 ++ (hi ++ lo))

/-- The packed word of an instruction (R52, default widths), unused bits zero. -/
def encodeWord (i : Instr) : BitVec 72 :=
  match i with
  | .crcInit => packWord 0x0 0 0
  | .crcUpd b => packWord 0x1 0 (b.setWidth 32)
  | .crcRd => packWord 0x2 0 0
  | .frmNew c p => packWord 0x8 (BitVec.ofInt 32 c) (BitVec.ofNat 32 p.length)
  | .frmSer => packWord 0x9 0 0
  | .frmDrop => packWord 0xA 0 0

/-- The payload that travels with the packed word of an instruction (R52, format N). -/
def encodePayload (i : Instr) : List Byte := (encode i).src

/-- The packed word that a number of spec/opcode_table.json stands for. A row's "fixed" bits `3:0`
number the selector alone, so a number shorter than the packed word is `OPSEL` in bits `3:0` (and
the unused nibble `[67:64]` in bits `7:4`), every other bit zero; a number of 72 bits or more is the
packed word itself, as the row's word_match is (log 9). -/
def tableWord (nbits w : Nat) : BitVec 72 :=
  if nbits < 72 then BitVec.ofNat 72 ((w % 16) * 2 ^ 68 + (w / 16 % 16) * 2 ^ 64)
  else BitVec.ofNat 72 w

/-- The payload of zeros that travels with a packed word: `LENARG` bytes (R50). -/
def zeroPayload (w : BitVec 72) : List Byte := List.replicate (wordLenArg w).toNat 0

/-- The instruction this decoder reads from the table's number `w` of `nbits` bits, its payload
bytes, if it has any, zeros. -/
def decodeTableWord (nbits w : Nat) : Option Instr :=
  match decodeWord (tableWord nbits w) (zeroPayload (tableWord nbits w)) with
  | .ok i => some i
  | .error _ => none

end Sys2Proof
end

