-- ==== Sys2Proof/Machine/Crc.lean ====
section
/-! DEFINITION. The Checksum Engine as pure functions (R79), for an arbitrary table. -/

namespace Sys2Proof.Machine

/-- `CRC_INIT`: the accumulator at the start of every computation (R71). -/
def crcInitial : Word := 0xFFFF

/-- `MemRead(TABLE, i, 1)` (R31): the index is a byte, so it is always in range. -/
def tableRead (t : CrcTable) (i : Byte) : Word := t[i.toNat]'i.isLt

/-- The table index `(ACC XOR b) & 0xFF` (R72). -/
def crcIndex (a : Word) (b : Byte) : Byte := ((a ^^^ b.setWidth 16) &&& 0x00FF#16).setWidth 8

/-- `upd(a, b) = CRC_TABLE[(a XOR b) & 0xFF] XOR (a >> 8)` (R72, R79). -/
def upd (t : CrcTable) (a : Word) (b : Byte) : Word := tableRead t (crcIndex a b) ^^^ (a >>> 8)

/-- `crc16_from(a, s)` (R79): the bytes are absorbed in ascending index order. -/
def crc16From (t : CrcTable) (a : Word) (s : List Byte) : Word :=
  match s with
  | [] => a
  | b :: rest => crc16From t (upd t a b) rest

/-- `crc16(s)` (R79): nothing is applied to the result (R77). -/
def crc16 (t : CrcTable) (s : List Byte) : Word := crc16From t crcInitial s

end Sys2Proof.Machine
end

