-- ==== Sys2Proof/Machine/Tables.lean ====
section
/-! DEFINITION. The two candidate contents of `CRC_TABLE` (R74, R75) and the spec's default
parameters (R4, 00_scope.md section 4). Nothing in the machine depends on which table an instance
has: the machine reads `Config.crcTable`. -/

namespace Sys2Proof.Machine

/-- One of the eight steps of R74: shift right, XOR `0x8408` if the bit shifted out is 1. -/
def reflectedStep (c : Word) : Word :=
  if c.getLsbD 0 then (c >>> 1) ^^^ 0x8408#16 else c >>> 1

/-- One of the eight steps of R75: shift left, XOR `0x1021` if the bit shifted out is 1. -/
def msbStep (c : Word) : Word :=
  if c.getLsbD 15 then (c <<< 1) ^^^ 0x1021#16 else c <<< 1

/-- A generation step repeated 8 times (R74, R75). -/
def eightTimes (f : Word → Word) (c : Word) : Word :=
  f (f (f (f (f (f (f (f c)))))))

/-- Entry `i` of `TABLE_REFLECTED` (R74). -/
def reflectedEntry (i : Nat) : Word := eightTimes reflectedStep (BitVec.ofNat 16 i)

/-- Entry `i` of `TABLE_MSB1021` (R75). -/
def msbEntry (i : Nat) : Word := eightTimes msbStep (BitVec.ofNat 16 i <<< 8)

/-- The table whose entry `i` is `f i`. -/
def tableOf (f : Nat → Word) : CrcTable :=
  ⟨((List.range 256).map f).toArray, by simp⟩

/-- `TABLE_REFLECTED` (R74), the default instance. -/
def tableReflected : CrcTable := tableOf reflectedEntry

/-- `TABLE_MSB1021` (R75), the alternative instance. -/
def tableMsb1021 : CrcTable := tableOf msbEntry

/-- The defaults of 00_scope.md section 4: `TABLE_REFLECTED`, `CORRECT`, 32, 32. DESIGN CHOICE of the
spec for its OPEN points D1 and D2 (log 1). Unsafe for a claim about runs from `State.reset`; claims
over all states hold for every parameter. -/
def defaultConfig : Config := ⟨tableReflected, .correct, 32, 32⟩

end Sys2Proof.Machine
end

