-- ==== Sys2Proof/Machine/State.lean ====
section
/-! DEFINITION. The state of one CORE instance (R10), beside it the instance's parameters (R4) and
the host's side of the request and response interface (R50, R53). -/

namespace Sys2Proof.Machine

/-- `STATUS` of a response (R53, R120). -/
inductive Status where
  | ok
  | invalidArgument
  | invalidState
  | illegalOperation
  deriving DecidableEq, Repr

/-- A response (R53). -/
structure Response where
  /-- `STATUS`. -/
  status : Status
  /-- `DATA`, 16 bits. -/
  data : Word
  /-- `OUT`, the frame of a successful `FRM.SER`, else empty. -/
  out : List Byte
  deriving DecidableEq, Repr

/-- What reaches the CORE from outside, between operations: a request (R50) or a reset (R140). -/
inductive HostEvent where
  | request (r : Request)
  | reset
  deriving DecidableEq, Repr

/-- `PBUF` (R15, R30): the cells that hold a value, as (address, byte) pairs. An unlisted cell holds
no value (R15, R22; log 5). -/
abbrev Memory := List Host.Cell

/-- The number of cells of `PBUF`: addresses 0 to 65534 (R15). -/
def pbufSize : Nat := 65535

/-- The one canonical form of a memory: addresses strictly rising, all of them addresses of `PBUF`. No
entry equals what an unlisted address holds, since that is no value. -/
abbrev Memory.wf (m : Memory) : Prop :=
  m.Pairwise (fun c d => c.1 < d.1) ∧ ∀ c ∈ m, c.1 < pbufSize

/-- One CORE instance. `acc`, `fv`, `cmd`, `plen`, `pbuf` are the five items of R10; `cfg` is its
parameters (R4), read-only (log 1); `inbox` and `outbox` are the host's side (R23, R124; log 3). -/
structure State where
  /-- The parameters (R4, R16, R18): no step writes them. -/
  cfg : Config
  /-- `ACC` (R11). -/
  acc : Word
  /-- `FV` (R14). -/
  fv : Bool
  /-- `CMD` (R12). -/
  cmd : Byte
  /-- `PLEN` (R13). -/
  plen : Word
  /-- `PBUF` (R15). -/
  pbuf : Memory
  /-- The host events not yet taken, oldest first. -/
  inbox : List HostEvent
  /-- The responses given, oldest first. -/
  outbox : List Response
  deriving DecidableEq, Repr

/-- Why the model stops. A fault OF THE CORE (R120) is none of these: it is a response, and the machine
goes on (R124, R126; log 7). -/
inductive Fault where
  /-- Raised by `FRM.SER` when `FV` is 1 and a cell below `PLEN` holds no value, which no reachable state
  has (R15, R46). Safe: the model stops where no value exists (log 5). -/
  | undefinedCell
  deriving DecidableEq, Repr

/-- Why a step has no meaning. -/
inductive Refusal where
  /-- Raised by an arm of `exec` whose instruction has no meaning yet; no arm raises it. Safe. -/
  | notModelled (mnemonic : String)
  /-- Raised by `step` for a request whose command or length operand does not fit its width: "Such a
  request cannot be formed" (U12, R50). Safe. -/
  | unformableRequest
  /-- Raised by `Platform.step` when the schedule names an instance the platform has not got (R21). Safe. -/
  | noSuchInstance
  deriving DecidableEq, Repr

/-- Right after reset (R22, R140), for any parameters. `ACC` and `FV` are the spec's. `CMD` and `PLEN`
zero: DESIGN CHOICE, the spec says "unspecified" (log 4), unsafe. `PBUF` holds no value (log 5), safe.
The host's lists empty: DESIGN CHOICE (log 3). -/
def State.resetWith (cfg : Config) : State where
  cfg := cfg
  acc := 0xFFFF
  fv := false
  cmd := 0
  plen := 0
  pbuf := []
  inbox := []
  outbox := []

/-- Right after reset with the spec's default parameters (log 1). -/
def State.reset : State := State.resetWith defaultConfig

end Sys2Proof.Machine
end

