-- ==== Sys2Proof/Machine/Ops.lean ====
section
/-! DEFINITION. The named operations over registers, `PBUF` and the response port; taking a fault of
the CORE (R124), which is one of them; reset (R140). There is no return from a fault (R126). -/

namespace Sys2Proof.Machine

/-- `MemRead(PBUF, a, 1)` (R32): `none` where the cell holds no value. -/
def Memory.read (m : Memory) (a : Nat) : Option Byte :=
  match m with
  | [] => none
  | (k, b) :: rest => if k = a then some b else Memory.read rest a

/-- The memory with the byte put at its place in the rising order. -/
def Memory.put (m : Memory) (a : Nat) (b : Byte) : Memory :=
  match m with
  | [] => [(a, b)]
  | (k, v) :: rest =>
    if a < k then (a, b) :: (k, v) :: rest
    else if a = k then (a, b) :: rest
    else (k, v) :: Memory.put rest a b

/-- `MemWrite(PBUF, a, 1, b)` (R32): `none` for an address that does not exist (R15). -/
def Memory.write (m : Memory) (a : Nat) (b : Byte) : Option Memory :=
  if a < pbufSize then some (m.put a b) else none

/-- The loop of R91: `MemWrite(PBUF, i, 1, MemRead(SRC, i, 1))` for ascending `i` from `i`. -/
def Memory.writeBytes (m : Memory) (i : Nat) (p : List Byte) : Option Memory :=
  match p with
  | [] => some m
  | b :: rest =>
    match m.write i b with
    | some m' => Memory.writeBytes m' (i + 1) rest
    | none => none

/-- The memory that holds `p` at addresses `i`, `i + 1`, ... and no other value. -/
def Memory.ofBytes (i : Nat) (p : List Byte) : Memory :=
  match p with
  | [] => []
  | b :: rest => (i, b) :: Memory.ofBytes (i + 1) rest

/-- `MemRead(PBUF, i, 1), ..., MemRead(PBUF, i + n - 1, 1)` in ascending order (R94); `none` if one of
the cells holds no value. -/
def Memory.readBytes (m : Memory) (i n : Nat) : Option (List Byte) :=
  match n with
  | 0 => some []
  | n + 1 =>
    match m.read i, Memory.readBytes m (i + 1) n with
    | some b, some rest => some (b :: rest)
    | _, _ => none

/-- `ACC <- v` (R11). -/
def State.setAcc (s : State) (v : Word) : State := { s with acc := v }

/-- The copy-in of R91, R93: `PBUF` holds `p` at addresses 0 and up, and every other cell "then" holds
"no defined value" (R15), which is no value (U4, log 5). -/
def State.copyIn (s : State) (p : List Byte) : State := { s with pbuf := Memory.ofBytes 0 p }

/-- `CMD <- c` (R12). -/
def State.setCmd (s : State) (c : Byte) : State := { s with cmd := c }

/-- `PLEN <- n` (R13). -/
def State.setPlen (s : State) (n : Word) : State := { s with plen := n }

/-- The host has taken this response (R53). -/
def State.answer (s : State) (r : Response) : State := { s with outbox := s.outbox ++ [r] }

/-- `respond(OK, d)` (R53): `OUT` empty. -/
def State.respond (s : State) (d : Word) : State := s.answer ⟨.ok, d, []⟩

/-- `respond(OK, 0, o)` (R53). -/
def State.respondOut (s : State) (o : List Byte) : State := s.answer ⟨.ok, 0, o⟩

/-- `raise f()` (R7, R124): no write, `DATA = 0`, `OUT` empty; the machine is ready for the next
request at once (R126). -/
def State.raise (s : State) (f : Status) : State := s.answer ⟨f, 0, []⟩

/-- `PBUF[0 .. PLEN)` (R94). -/
def State.payload (s : State) : Option (List Byte) := s.pbuf.readBytes 0 s.plen.toNat

/-- The reset event (R140): the state of R22, the parameters untouched (R16); what the host has still
to say and what it was told is the host's and stays (log 10). -/
def State.resetEvent (s : State) : State :=
  { State.resetWith s.cfg with inbox := s.inbox, outbox := s.outbox }

/-- `STATUS` as its 2-bit number (R53, R120). -/
def Status.code (f : Status) : BitVec 2 :=
  match f with
  | .ok => 0
  | .invalidArgument => 1
  | .invalidState => 2
  | .illegalOperation => 3

end Sys2Proof.Machine
end

