-- ==== Sys2Proof/Machine/ChecksumEngine.lean ====
section
/-! DEFINITION. The meanings of the Checksum Engine's operations (R71 to R73). None reads or writes the
frame slot (R70), none faults (R120). -/

namespace Sys2Proof.Machine

/-- `CRC.INIT` (R71). -/
def execCrcInit (s : State) : Host.Outcome State Fault Refusal :=
  .next ((s.setAcc crcInitial).respond 0)

/-- `CRC.UPD b` (R72). -/
def execCrcUpd (b : Byte) (s : State) : Host.Outcome State Fault Refusal :=
  .next ((s.setAcc (upd s.cfg.crcTable s.acc b)).respond 0)

/-- `CRC.RD` (R73): `DATA` is `ACC` bit for bit (R77). -/
def execCrcRd (s : State) : Host.Outcome State Fault Refusal :=
  .next (s.respond s.acc)

end Sys2Proof.Machine
end

