-- ==== Sys2Proof/Machine/Flags.lean ====
section
/-! DEFINITION. `FV`, "the CORE's only flag" (R14). There are no carry, zero, overflow or condition-code
flags. -/

namespace Sys2Proof.Machine

/-- `FV <- 1`: by a successful `FRM.NEW` and by nothing else (R14). -/
def State.setFrameValid (s : State) : State := { s with fv := true }

/-- `FV <- 0`: by `FRM.DROP` (R14, R95). -/
def State.clearFrameValid (s : State) : State := { s with fv := false }

end Sys2Proof.Machine
end

