-- ==== Sys2Proof/Machine/Operands.lean ====
section
/-! DEFINITION. How operands are read, checked and narrowed (R54, R107), and the bytes a 16-bit value is
split into (R35, R60, R61). -/

namespace Sys2Proof.Machine

/-- `CMD_MAX`: the largest command code (R91). -/
def cmdMax : Int := 255

/-- `PLEN_MAX`: the largest payload length, in both `LEN_HI_MODE`s (R91, C8). -/
def plenMax : Nat := 65535

/-- The command operand is "negative or out-of-range" (R91, R121). -/
def commandOutOfRange (c : Int) : Bool := decide (c < 0) || decide (cmdMax < c)

/-- The payload's length "cannot be represented in the frame's length field" (R91, R121). -/
def lengthOutOfRange (n : Nat) : Bool := decide (plenMax < n)

/-- `CMDARG[7:0]` (R54). After the check it equals the operand. -/
def commandByte (c : Int) : Byte := BitVec.ofInt 8 c

/-- `LENARG[15:0]` (R54). After the check it equals the operand. -/
def lengthWord (n : Nat) : Word := BitVec.ofNat 16 n

/-- `w & 0xFF` as a byte (R58, R107). -/
def lowByte (w : Word) : Byte := (w &&& 0x00FF#16).setWidth 8

/-- `(w >> 8) & 0xFF` as a byte (R58, R107). -/
def highByte (w : Word) : Byte := ((w >>> 8) &&& 0x00FF#16).setWidth 8

end Sys2Proof.Machine
end

