-- ==== Sys2Proof/Machine/Frame.lean ====
section
/-! DEFINITION. The frame wire format (R57 to R62) as pure functions (R96). -/

namespace Sys2Proof.Machine

/-- One byte of `PREAMBLE` (R58). -/
def preambleByte : Byte := 0xAA

/-- `hi(N)`: the length high byte (R60, R96; C1). -/
def lengthHigh (m : LenHiMode) (n : Word) : Byte :=
  match m with
  | .correct => highByte n
  | .legacyZero => 0x00

/-- Offsets 0 to 5 of the frame: preamble, command, length low, length high (R58). -/
def header (m : LenHiMode) (c : Byte) (n : Word) : List Byte :=
  [preambleByte, preambleByte, preambleByte, c, lowByte n, lengthHigh m n]

/-- The checksum as its two bytes, "low byte first" (R61). -/
def trailer (c : Word) : List Byte := [lowByte c, highByte c]

/-- A body with its checksum appended (R94, R96). -/
def appendChecksum (t : CrcTable) (body : List Byte) : List Byte := body ++ trailer (crc16 t body)

/-- `body(c, p)` (R96). -/
def frameBody (m : LenHiMode) (c : Byte) (p : List Byte) : List Byte :=
  header m c (lengthWord p.length) ++ p

/-- `frame(c, p)` (R96), for `len(p) <= 65535`. -/
def frame (cfg : Config) (c : Byte) (p : List Byte) : List Byte :=
  appendChecksum cfg.crcTable (frameBody cfg.lenHiMode c p)

end Sys2Proof.Machine
end

