-- ==== Sys2Proof/Machine/FrameEncoder.lean ====
section
/-! DEFINITION. The meanings of the Frame Encoder's operations (R91, R94, R95). None reads or writes
`ACC` (R109). -/

namespace Sys2Proof.Machine

/-- `FRM.NEW cmd, P` (R91): the command check, then the length check (R125), then the writes. -/
def execFrmNew (c : Int) (p : List Byte) (s : State) : Host.Outcome State Fault Refusal :=
  if commandOutOfRange c then .next (s.raise .invalidArgument)
  else if lengthOutOfRange p.length then .next (s.raise .invalidArgument)
  else
    .next (((((s.copyIn p).setCmd (commandByte c)).setPlen (lengthWord p.length)).setFrameValid).respond 0)

/-- `FRM.SER` (R94). The checksum is computed with an accumulator of its own (R109), so `ACC` stays. -/
def execFrmSer (s : State) : Host.Outcome State Fault Refusal :=
  if s.fv then
    match s.payload with
    | some p => .next (s.respondOut (appendChecksum s.cfg.crcTable (header s.cfg.lenHiMode s.cmd s.plen ++ p)))
    | none => .fault .undefinedCell
  else .next (s.raise .invalidState)

/-- `FRM.DROP` (R95): `CMD`, `PLEN` and `PBUF` "keep their bits physically but become unreadable" (log 8). -/
def execFrmDrop (s : State) : Host.Outcome State Fault Refusal :=
  .next (s.clearFrameValid.respond 0)

end Sys2Proof.Machine
end

