-- ==== Sys2Proof/Machine/Dispatch.lean ====
section
/-! DEFINITION. One operation, executed atomically (R38): one arm per instruction. -/

namespace Sys2Proof.Machine

def exec (i : Instr) (s : State) : Host.Outcome State Fault Refusal :=
  match i with
  | .crcInit => Sys2Proof.Machine.execCrcInit s
  | .crcUpd b => Sys2Proof.Machine.execCrcUpd b s
  | .crcRd => Sys2Proof.Machine.execCrcRd s
  | .frmNew cmd p => Sys2Proof.Machine.execFrmNew cmd p s
  | .frmSer => Sys2Proof.Machine.execFrmSer s
  | .frmDrop => Sys2Proof.Machine.execFrmDrop s

end Sys2Proof.Machine
end

