-- ==== Sys2Proof/Machine/Intake.lean ====
section
/-! DEFINITION. What the CORE does with one host event (R40, R50, R140). -/

namespace Sys2Proof.Machine

/-- One request (R50): a reserved selector answers IllegalOperation and changes no state (R55, R123);
operands that do not fit their widths cannot be formed (U12, log 2); any other request runs its
operation. -/
def takeRequest (r : Request) (s : State) : Host.Outcome State Fault Refusal :=
  match decode r with
  | .error _ => .next (s.raise .illegalOperation)
  | .ok i => if i.wf s.cfg then exec i s else .refused .unformableRequest

/-- One reset (R140): it has no response. -/
def takeReset (s : State) : Host.Outcome State Fault Refusal := .next s.resetEvent

/-- One host event. -/
def takeEvent (e : HostEvent) (s : State) : Host.Outcome State Fault Refusal :=
  match e with
  | .request r => takeRequest r s
  | .reset => takeReset s

end Sys2Proof.Machine
end

