-- ==== Sys2Proof/Machine/Step.lean ====
section
/-! DEFINITION. One step: the CORE takes the host's next event (R40, R140). -/

namespace Sys2Proof.Machine

/-- One step. With no event pending the CORE is idle and "keeps all its state" (R131). -/
def step (s : State) : Host.Outcome State Fault Refusal :=
  match s.inbox with
  | [] => .next s
  | e :: rest => takeEvent e { s with inbox := rest }

/-- `s` with the request of the table's number `w` presented as the next one, its payload bytes zeros
(log 3, log 9). -/
def State.withFetchWord (s : State) (nbits w : Nat) : State :=
  { s with
    inbox := .request (unpackRequest (tableWord nbits w) (zeroPayload (tableWord nbits w))) :: s.inbox }

end Sys2Proof.Machine
end

