-- ==== Sys2Proof/Machine/Emission.lean ====
section
/-! DEFINITION. How `FRM.SER` proceeds inside (R108): the emission of `OUT` byte by byte with the
transient `POS` and `SACC` (R17, R19). It is not observable; `execFrmSer` computes the frame in one
step, as R108 allows, and an obligation says that the two agree. -/

namespace Sys2Proof.Machine

/-- The transient values of one `FRM.SER` (R17, R19) and the cells of `OUT` it has written (R34). -/
structure Serializer where
  /-- `POS`, 17 bits. -/
  pos : BitVec 17
  /-- `SACC`, 16 bits. -/
  sacc : Word
  /-- The cells of `OUT` written so far, in the order of the writes. -/
  out : List Host.Cell
  deriving DecidableEq, Repr

/-- `SACC <- 0xFFFF ; POS <- 0` (R108). -/
def Serializer.start : Serializer := ⟨0, crcInitial, []⟩

/-- `emit(v)` (R108). -/
def Serializer.emit (t : CrcTable) (z : Serializer) (v : Byte) : Serializer :=
  ⟨z.pos + 1, upd t z.sacc v, z.out ++ [(z.pos.toNat, v)]⟩

/-- `emit` of each byte in ascending order (R108). -/
def Serializer.emitAll (t : CrcTable) (z : Serializer) (p : List Byte) : Serializer :=
  p.foldl (Serializer.emit t) z

/-- The two trailer bytes, not fed back into `SACC` (R108); `POS` ends at the offset of the last byte
(R17; DEDUCED, log 14). -/
def Serializer.finish (z : Serializer) : Serializer :=
  { z with
    pos := z.pos + 1
    out := z.out ++ [(z.pos.toNat, lowByte z.sacc), ((z.pos + 1).toNat, highByte z.sacc)] }

/-- The whole emission of R108 for the frame slot's contents. -/
def emission (cfg : Config) (c : Byte) (n : Word) (p : List Byte) : Serializer :=
  (((Serializer.start.emitAll cfg.crcTable (header cfg.lenHiMode c n)).emitAll cfg.crcTable p)).finish

end Sys2Proof.Machine
end

