-- ==== Sys2Proof/Machine/Platform.lean ====
section
/-! DEFINITION. `N_INST` CORE instances (R21, D13): the product of independent machines that share only
the `CRC_TABLE` ROM. A schedule says which instance takes its next event; every interleaving of whole
operations is a schedule (R41). -/

namespace Sys2Proof.Machine

/-- `N_INST` is the length of the list. -/
structure Platform where
  cores : List State
  deriving DecidableEq, Repr

/-- One ROM for all instances (R21). -/
abbrev Platform.sharedRom (q : Platform) : Prop :=
  ∀ s ∈ q.cores, ∀ t ∈ q.cores, s.cfg.crcTable = t.cfg.crcTable

/-- `n` instances with the same parameters, right after reset. -/
def Platform.resetWith (cfg : Config) (n : Nat) : Platform := ⟨List.replicate n (State.resetWith cfg)⟩

/-- Instance `k` takes its next event. -/
def Platform.step (k : Nat) (q : Platform) : Host.Outcome Platform Fault Refusal :=
  match q.cores[k]? with
  | none => .refused .noSuchInstance
  | some s =>
    match Sys2Proof.Machine.step s with
    | .next s' => .next ⟨q.cores.set k s'⟩
    | .fault f => .fault f
    | .refused r => .refused r

/-- The instances take their events in the order of the schedule. -/
def Platform.run (ks : List Nat) (q : Platform) : Host.Outcome Platform Fault Refusal :=
  match ks with
  | [] => .next q
  | k :: rest =>
    match q.step k with
    | .next q' => Platform.run rest q'
    | .fault f => .fault f
    | .refused r => .refused r

end Sys2Proof.Machine
end

