-- ==== Sys2Proof/Machine/Pseudo.lean ====
section
/-! DEFINITION. The pseudo-operations of R64: each stands for the host issuing real operations. -/

namespace Sys2Proof.Machine

/-- Operations executed in order (R40), up to the first stop of the model. -/
def execAll (is : List Instr) (s : State) : Host.Outcome State Fault Refusal :=
  match is with
  | [] => .next s
  | i :: rest =>
    match exec i s with
    | .next s' => execAll rest s'
    | .fault f => .fault f
    | .refused r => .refused r

/-- The expansion of `CRC.COMPUTE` (R64). -/
def crcCompute (bytes : List Byte) : List Instr :=
  Instr.crcInit :: (bytes.map Instr.crcUpd ++ [Instr.crcRd])

/-- The status of the latest response. -/
def State.lastStatus (s : State) : Option Status := s.outbox.getLast?.map Response.status

/-- `FRM.ENCODE cmd, p` (R64): `FRM.NEW`; if its status is OK, `FRM.SER` and `FRM.DROP`; "If `FRM.NEW`
faults the expansion stops there". -/
def frmEncode (c : Int) (p : List Byte) (s : State) : Host.Outcome State Fault Refusal :=
  match exec (.frmNew c p) s with
  | .next s' => if s'.lastStatus = some .ok then execAll [.frmSer, .frmDrop] s' else .next s'
  | o => o

end Sys2Proof.Machine
end

