-- ==== Sys2Proof/Safety.lean ====
section
/-! DEFINITION. The terms claims about whole runs use: the invariant every reachable state has, requests
that can be formed, a run free of faults, and states no response can tell apart. -/

namespace Sys2Proof.Machine

/-- What holds in every state the machine reaches from reset: the parameters are legal (D4), `PBUF` is in
canonical form, and while `FV` is 1 the cells of `PBUF` that hold a value are exactly `0 .. PLEN-1`
(R15, R46). -/
structure State.Inv (s : State) : Prop where
  cfg_wf : s.cfg.wf
  pbuf_wf : s.pbuf.wf
  slot : s.fv = true → s.pbuf.map Prod.fst = List.range s.plen.toNat

/-- The request can be formed at this instance's widths (R50, U12). A reserved selector uses no operand. -/
def requestFormable (cfg : Config) (r : Request) : Bool :=
  match decode r with
  | .ok i => i.wf cfg
  | .error _ => true

/-- The event can be presented to an instance with these parameters. -/
def HostEvent.formable (cfg : Config) (e : HostEvent) : Bool :=
  match e with
  | .reset => true
  | .request r => requestFormable cfg r

/-- "A run is free of faults when every response in it has `STATUS = 0`" (R150). -/
def State.faultFree (s : State) : Bool := s.outbox.all (fun r => decide (r.status = .ok))

/-- The two states differ at most in `CMD`, `PLEN` and `PBUF`, and in those only while `FV` is 0, where no
operation reads them (R22, U3). -/
structure State.SameReadable (s t : State) : Prop where
  cfg : s.cfg = t.cfg
  acc : s.acc = t.acc
  fv : s.fv = t.fv
  inbox : s.inbox = t.inbox
  outbox : s.outbox = t.outbox
  slot : s.fv = true → s.cmd = t.cmd ∧ s.plen = t.plen ∧ s.pbuf = t.pbuf

/-- The next state of an outcome, if it has one. -/
def nextState (o : Host.Outcome State Fault Refusal) : Option State :=
  match o with
  | .next s => some s
  | .fault _ => none
  | .refused _ => none

end Sys2Proof.Machine
end

