-- ==== Sys2Proof/Certificates/Slice0/Obligations.lean ====
section
/-! DEFINITION. The statements for the provers. A statement over all states holds for every parameter of
R4 (`cfg` is any), so it names no table and no `LEN_HI_MODE` unless it says so. -/

open Sys2Proof Sys2Proof.Machine

/-! ## The operations: results, frames, completion -/

/-- R71: `CRC.INIT`, in every state. Everything but `ACC` and the response port stays. -/
def Obligations.CrcInitStartsComputation : Prop :=
  (∀ s : State, exec .crcInit s =
    .next { s with acc := 0xFFFF, outbox := s.outbox ++ [⟨.ok, 0, []⟩] }) ∧
  ∀ r : Request, r.opsel = 0x0 → decode r = .ok .crcInit

/-- R72: `CRC.UPD`, in every state and for every table; the index is `ACC[7:0] XOR b`, the shift is
logical, and with a zero entry 0 the byte `ACC[7:0]` gives `ACC >> 8`. -/
def Obligations.CrcUpdAbsorbsByte : Prop :=
  (∀ (b : Byte) (s : State), exec (.crcUpd b) s =
    .next { s with
      acc := tableRead s.cfg.crcTable (s.acc.setWidth 8 ^^^ b) ^^^ (s.acc.extractLsb' 8 8).setWidth 16
      outbox := s.outbox ++ [⟨.ok, 0, []⟩] }) ∧
  (∀ (a : Word) (b : Byte), (a.setWidth 8 ^^^ b).setWidth 16 = (a ^^^ b.setWidth 16) &&& 0x00FF#16 ∧
    (a.extractLsb' 8 8).setWidth 16 = a >>> 8) ∧
  (∀ (s : State), tableRead s.cfg.crcTable 0 = 0 → exec (.crcUpd (s.acc.setWidth 8)) s =
    .next { s with acc := s.acc >>> 8, outbox := s.outbox ++ [⟨.ok, 0, []⟩] }) ∧
  ∀ r : Request, r.opsel = 0x1 → decode r = .ok (.crcUpd r.byte)

/-- R73: `CRC.RD`, in every state: `DATA` is `ACC`, and `ACC` stays. -/
def Obligations.CrcRdDeliversAccumulator : Prop :=
  (∀ s : State, exec .crcRd s = .next { s with outbox := s.outbox ++ [⟨.ok, s.acc, []⟩] }) ∧
  ∀ r : Request, r.opsel = 0x2 → decode r = .ok .crcRd

/-- R91, R93, R121: `FRM.NEW`, in every state and for every operand. It refuses exactly the operands R121
names and then writes nothing; otherwise it writes the whole frame slot, and the cells of `PBUF` below `L`
read as the payload. -/
def Obligations.FrmNewConstructsOrRefuses : Prop :=
  (∀ (c : Int) (p : List Byte) (s : State),
    if c < 0 ∨ 255 < c ∨ 65535 < p.length then
      exec (.frmNew c p) s = .next { s with outbox := s.outbox ++ [⟨.invalidArgument, 0, []⟩] }
    else ∃ t : State, exec (.frmNew c p) s = .next t ∧
      t.fv = true ∧ (t.cmd.toNat : Int) = c ∧ t.plen.toNat = p.length ∧
      (∀ a, a < p.length → t.pbuf.read a = p[a]?) ∧
      t.acc = s.acc ∧ t.cfg = s.cfg ∧ t.inbox = s.inbox ∧
      t.outbox = s.outbox ++ [⟨.ok, 0, []⟩]) ∧
  ∀ r : Request, r.opsel = 0x8 → decode r = .ok (.frmNew r.cmdArg r.src)

/-- The MODEL's choice (log 5): after a `FRM.NEW` that constructs a Frame of `L` bytes, every cell of `PBUF` from
`L` on holds no value. R15 says that such a cell holds "no defined value"; U4 would allow any value there. -/
def Obligations.FrmNewLeavesNoOtherCell : Prop :=
  ∀ (c : Int) (p : List Byte) (s : State), 0 ≤ c → c ≤ 255 → p.length ≤ 65535 →
    ∃ t : State, exec (.frmNew c p) s = .next t ∧ ∀ a, p.length ≤ a → t.pbuf.read a = none

/-- R94, R122: `FRM.SER`. With `FV` = 0 it answers InvalidState; with `FV` = 1 and the payload `p` in
`PBUF[0 .. PLEN)` it answers `frame(CMD, p)`; it writes nothing but the response. -/
def Obligations.FrmSerSerializesOrFaults : Prop :=
  (∀ s : State, s.fv = false →
    exec .frmSer s = .next { s with outbox := s.outbox ++ [⟨.invalidState, 0, []⟩] }) ∧
  (∀ (s : State) (p : List Byte), s.fv = true → p.length = s.plen.toNat →
    (∀ a, a < s.plen.toNat → s.pbuf.read a = p[a]?) →
    exec .frmSer s = .next { s with outbox := s.outbox ++ [⟨.ok, 0, frame s.cfg s.cmd p⟩] }) ∧
  ∀ r : Request, r.opsel = 0x9 → decode r = .ok .frmSer

/-- `FRM.SER` completes in every state that has the model's invariant and `FV` = 1: the payload exists. -/
def Obligations.FrmSerCompletesOnValidFrame : Prop :=
  ∀ s : State, s.Inv → s.fv = true → ∃ p : List Byte,
    p.length = s.plen.toNat ∧ (∀ a, s.pbuf.read a = p[a]?) ∧
    exec .frmSer s = .next { s with outbox := s.outbox ++ [⟨.ok, 0, frame s.cfg s.cmd p⟩] }

/-- The model's own stop (log 5): with `FV` = 1, `FRM.SER` stops exactly when a cell below `PLEN` holds no
value. -/
def Obligations.FrmSerStopsOnUndefinedCell : Prop :=
  ∀ s : State, s.fv = true →
    (exec .frmSer s = .fault .undefinedCell ↔ ∃ a, a < s.plen.toNat ∧ s.pbuf.read a = none)

/-- R95: `FRM.DROP`, in every state. -/
def Obligations.FrmDropClearsFrameValid : Prop :=
  (∀ s : State, exec .frmDrop s =
    .next { s with fv := false, outbox := s.outbox ++ [⟨.ok, 0, []⟩] }) ∧
  ∀ r : Request, r.opsel = 0xA → decode r = .ok .frmDrop

/-- R109: the Frame Encoder's operations neither write nor read `ACC`. -/
def Obligations.FrameEncoderIgnoresAccumulator : Prop :=
  ∀ (i : Instr) (s t : State) (v : Word),
    ((∃ c p, i = .frmNew c p) ∨ i = .frmSer ∨ i = .frmDrop) → exec i s = .next t →
    t.acc = s.acc ∧ exec i { s with acc := v } = .next { t with acc := v }

/-- R70: the Checksum Engine's operations neither write nor read the frame slot. -/
def Obligations.ChecksumEngineIgnoresFrameSlot : Prop :=
  ∀ (i : Instr) (s : State) (f : Bool) (c : Byte) (n : Word) (m : Memory),
    (i = .crcInit ∨ (∃ b, i = .crcUpd b) ∨ i = .crcRd) → ∃ t : State, exec i s = .next t ∧
    t.fv = s.fv ∧ t.cmd = s.cmd ∧ t.plen = s.plen ∧ (∀ a, t.pbuf.read a = s.pbuf.read a) ∧
    exec i { s with fv := f, cmd := c, plen := n, pbuf := m } =
      .next { t with fv := f, cmd := c, plen := n, pbuf := m }

/-- R102, R103: the response of a `FRM.SER` is a function of the frame slot and the parameters, and the
operation writes nothing else, so serializing again gives the same bytes. -/
def Obligations.SerializeIsIdempotent : Prop :=
  ∀ s t : State, exec .frmSer s = .next t → ∃ q : Response,
    t = { s with outbox := s.outbox ++ [q] } ∧
    ∀ u : State, u.cfg = s.cfg → u.fv = s.fv → u.cmd = s.cmd → u.plen = s.plen → u.pbuf = s.pbuf →
      exec .frmSer u = .next { u with outbox := u.outbox ++ [q] }

/-- R40(b), R90, R146: `FRM.SER` emits the frame of the latest successful `FRM.NEW`, whatever other operations
but `FRM.DROP` stand between: `CRC` operations, `FRM.SER`s and refused `FRM.NEW`s. -/
def Obligations.SerializeEmitsLatestFrame : Prop :=
  ∀ (c : Int) (p : List Byte) (is : List Instr) (s : State),
    0 ≤ c → c ≤ 255 → p.length ≤ 65535 →
    (∀ i ∈ is, i = .crcInit ∨ (∃ b, i = .crcUpd b) ∨ i = .crcRd ∨ i = .frmSer ∨
      ∃ c' p', i = .frmNew c' p' ∧ (c' < 0 ∨ 255 < c' ∨ 65535 < p'.length)) →
    ∃ t : State, execAll (.frmNew c p :: (is ++ [.frmSer])) s = .next t ∧
      t.outbox.getLast? = some ⟨.ok, 0, frame s.cfg (BitVec.ofInt 8 c) p⟩

/-- R146: a `FRM.SER` after a refused `FRM.NEW` answers what it would have answered before it. -/
def Obligations.RefusedNewLeavesOlderFrame : Prop :=
  ∀ (c : Int) (p : List Byte) (s : State) (q : Response),
    (c < 0 ∨ 255 < c ∨ 65535 < p.length) →
    exec .frmSer s = .next { s with outbox := s.outbox ++ [q] } →
    execAll [.frmNew c p, .frmSer] s =
      .next { s with outbox := s.outbox ++ [⟨.invalidArgument, 0, []⟩, q] }

/-! ## Requests, responses, faults -/

/-- A step runs the decoded instruction, on the state without the request taken. -/
def Obligations.StepRunsDecodedInstruction : Prop :=
  ∀ (s : State) (r : Request) (rest : List HostEvent) (i : Instr),
    s.inbox = .request r :: rest → decode r = .ok i → i.wf s.cfg = true →
    step s = exec i { s with inbox := rest }

/-- The request that `withFetchWord` presents is the very next one the machine runs. -/
def Obligations.FetchWordRunsNext : Prop :=
  ∀ (s : State) (nbits w : Nat) (i : Instr),
    decodeTableWord nbits w = some i → i.wf s.cfg = true →
    step (s.withFetchWord nbits w) = exec i s

/-- U12 (log 2): a request whose operands do not fit their widths is the model's refusal. -/
def Obligations.UnformableRequestRefused : Prop :=
  ∀ (s : State) (r : Request) (rest : List HostEvent) (i : Instr),
    s.inbox = .request r :: rest → decode r = .ok i → i.wf s.cfg = false →
    step s = .refused .unformableRequest

/-- R55, R123: the ten reserved selectors answer IllegalOperation (`STATUS` 3) and change no state; a request
with any other selector decodes to an operation and is never answered with IllegalOperation. -/
def Obligations.ReservedSelectorsAnswerIllegalOperation : Prop :=
  Status.illegalOperation.code = 3 ∧
  ∀ (s : State) (r : Request) (rest : List HostEvent), s.inbox = .request r :: rest →
    (r.opsel ∈ [0x3#4, 0x4#4, 0x5#4, 0x6#4, 0x7#4, 0xB#4, 0xC#4, 0xD#4, 0xE#4, 0xF#4] →
      step s = .next { s with inbox := rest, outbox := s.outbox ++ [⟨.illegalOperation, 0, []⟩] }) ∧
    (r.opsel ∉ [0x3#4, 0x4#4, 0x5#4, 0x6#4, 0x7#4, 0xB#4, 0xC#4, 0xD#4, 0xE#4, 0xF#4] →
      (∃ i, decode r = .ok i) ∧
      ∀ (t : State) (q : Response), step s = .next t → t.outbox = s.outbox ++ [q] →
        q.status ≠ .illegalOperation)

/-- R56: operand fields that the selected format does not list change neither state nor response. -/
def Obligations.UnusedOperandFieldsIgnored : Prop :=
  ∀ (s : State) (r r' : Request) (rest : List HostEvent), r.opsel = r'.opsel →
    (r.opsel = 0x1 → r.byte = r'.byte) →
    (r.opsel = 0x8 → r.cmdArg = r'.cmdArg ∧ r.src = r'.src) →
    step { s with inbox := .request r :: rest } = step { s with inbox := .request r' :: rest }

/-- R53: every request taken is answered by exactly one response; `DATA` is `ACC` for `CRC.RD` and 0
otherwise; `OUT` is `PLEN + 8` bytes for a successful `FRM.SER` and empty otherwise; the four statuses
have the numbers 0 to 3. -/
def Obligations.EachRequestHasOneResponse : Prop :=
  (∀ (s t : State) (r : Request) (rest : List HostEvent),
    s.inbox = .request r :: rest → step s = .next t →
    t.inbox = rest ∧ ∃ q : Response, t.outbox = s.outbox ++ [q] ∧
      q.data = (if r.opsel = 0x2 then s.acc else 0) ∧
      (if r.opsel = 0x9 ∧ q.status = .ok then q.out.length = s.plen.toNat + 8 else q.out = [])) ∧
  Status.ok.code = 0 ∧ Status.invalidArgument.code = 1 ∧ Status.invalidState.code = 2 ∧
  Status.illegalOperation.code = 3

/-- R124: a response that is a fault leaves every item of state as it was before the request. -/
def Obligations.FaultWritesNothing : Prop :=
  ∀ (s t : State) (r : Request) (rest : List HostEvent) (q : Response),
    s.inbox = .request r :: rest → step s = .next t → t.outbox = s.outbox ++ [q] → q.status ≠ .ok →
    t = { s with inbox := rest, outbox := s.outbox ++ [⟨q.status, 0, []⟩] }

/-- R120 to R123: each fault arises for exactly the causes R120 lists. -/
def Obligations.FaultCausesAreExact : Prop :=
  ∀ (s t : State) (r : Request) (rest : List HostEvent) (q : Response),
    s.inbox = .request r :: rest → step s = .next t → t.outbox = s.outbox ++ [q] →
    (q.status = .invalidArgument ↔
      r.opsel = 0x8 ∧ (r.cmdArg < 0 ∨ 255 < r.cmdArg ∨ 65535 < r.src.length)) ∧
    (q.status = .invalidState ↔ r.opsel = 0x9 ∧ s.fv = false) ∧
    (q.status = .illegalOperation ↔
      r.opsel ∈ [0x3#4, 0x4#4, 0x5#4, 0x6#4, 0x7#4, 0xB#4, 0xC#4, 0xD#4, 0xE#4, 0xF#4])

/-! ## Invariants and whole-machine rules -/

/-- Every step keeps the model's invariant. -/
def Obligations.StepKeepsInvariant : Prop :=
  ∀ s t : State, s.Inv → step s = .next t → t.Inv

/-- The state after reset has the invariant, for all legal parameters and for the default ones. -/
def Obligations.ResetMeetsInvariant : Prop :=
  (∀ cfg : Config, cfg.wf → (State.resetWith cfg).Inv) ∧ State.reset.Inv

/-- R50, R126, R149: no request blocks, poisons or stops the machine. From a state with the invariant, the
pending events that can be formed are all taken, one a step, and each request gets one response. -/
def Obligations.EveryPendingRequestIsAnswered : Prop :=
  ∀ s : State, s.Inv → (∀ e ∈ s.inbox, e.formable s.cfg = true) →
    ∃ t : State, Sys2Proof.core.run s.inbox.length s = .next t ∧ t.inbox = [] ∧
      t.outbox.length = s.outbox.length + s.inbox.countP (fun e => e != .reset)

/-- R4, R16, R18: no operation and no reset writes the parameters, over a whole run. -/
def Obligations.ParametersNeverChange : Prop :=
  ∀ (n : Nat) (s t : State), Sys2Proof.core.run n s = .next t → t.cfg = s.cfg

/-- R20: only a successful `FRM.NEW`, a `FRM.DROP` and a reset change the frame slot. -/
def Obligations.FrameSlotIsImmutable : Prop :=
  ∀ s t : State, step s = .next t →
    (∀ rest, s.inbox ≠ .reset :: rest) →
    (∀ r rest, s.inbox = .request r :: rest → r.opsel ≠ 0xA ∧
      ¬ (r.opsel = 0x8 ∧ 0 ≤ r.cmdArg ∧ r.cmdArg ≤ 255 ∧ r.src.length ≤ 65535)) →
    t.fv = s.fv ∧ t.cmd = s.cmd ∧ t.plen = s.plen ∧ ∀ a, t.pbuf.read a = s.pbuf.read a

/-- R22, U3: while `FV` is 0, no response of any run depends on `CMD`, `PLEN` or `PBUF`. -/
def Obligations.UnreadableSlotIsInvisible : Prop :=
  ∀ (n : Nat) (s t : State), s.SameReadable t →
    (∀ s' : State, Sys2Proof.core.run n s = .next s' →
      ∃ t' : State, Sys2Proof.core.run n t = .next t' ∧ s'.SameReadable t') ∧
    (∀ f : Fault, Sys2Proof.core.run n s = .fault f → Sys2Proof.core.run n t = .fault f) ∧
    (∀ r : Refusal, Sys2Proof.core.run n s = .refused r → Sys2Proof.core.run n t = .refused r)

/-- R147: a later operation does not alter an earlier response. -/
def Obligations.EarlierResponsesStand : Prop :=
  ∀ (n : Nat) (s t : State), Sys2Proof.core.run n s = .next t → s.outbox <+: t.outbox

/-- R131: with no event pending the machine is idle and keeps all its state. -/
def Obligations.IdleKeepsState : Prop :=
  ∀ s : State, s.inbox = [] → step s = .next s

/-- R140: the reset event. `ACC` and `FV` take their reset values, the parameters stay, and `CMD`, `PLEN` and
`PBUF` are unreadable: `FRM.SER` answers InvalidState. -/
def Obligations.ResetEventResetsState : Prop :=
  ∀ (s : State) (rest : List HostEvent), s.inbox = .reset :: rest → ∃ t : State,
    step s = .next t ∧ t.acc = 0xFFFF ∧ t.fv = false ∧ t.cfg = s.cfg ∧
    exec .frmSer t = .next { t with outbox := t.outbox ++ [⟨.invalidState, 0, []⟩] }

/-- R22: the state after reset, for any parameters: `ACC`, `FV`, the ROM and the other parameters as configured;
the frame slot is not readable, since `FRM.SER` answers InvalidState. -/
def Obligations.ResetStateValues : Prop :=
  ∀ cfg : Config, (State.resetWith cfg).acc = 0xFFFF ∧ (State.resetWith cfg).fv = false ∧
    (State.resetWith cfg).cfg = cfg ∧
    exec .frmSer (State.resetWith cfg) =
      .next { State.resetWith cfg with outbox := [⟨.invalidState, 0, []⟩] }

/-- The MODEL's choices at reset: `CMD` and `PLEN` zero (log 4), no cell of `PBUF` with a value (log 5), the
host's lists empty (log 3), the default parameters in `State.reset` (log 1), the host's lists kept by the
reset event (log 10). -/
def Obligations.ResetModelChoices : Prop :=
  (∀ cfg : Config, (State.resetWith cfg).cmd = 0 ∧ (State.resetWith cfg).plen = 0 ∧
    (∀ a, (State.resetWith cfg).pbuf.read a = none) ∧
    (State.resetWith cfg).inbox = [] ∧ (State.resetWith cfg).outbox = []) ∧
  State.reset = State.resetWith ⟨tableReflected, .correct, 32, 32⟩ ∧
  ∀ (s : State) (rest : List HostEvent), s.inbox = .reset :: rest →
    step s = .next { State.resetWith s.cfg with inbox := rest, outbox := s.outbox }

/-! ## Pseudo-operations and sequences -/

/-- R78, R82: `CRC.COMPUTE` answers `crc16` of its byte list, whatever the state before it. -/
def Obligations.CrcComputeYieldsChecksum : Prop :=
  ∀ (bytes : List Byte) (s : State), execAll (crcCompute bytes) s =
    .next { s with
      acc := crc16 s.cfg.crcTable bytes
      outbox := s.outbox ++ (List.replicate (bytes.length + 1) ⟨.ok, 0, []⟩ ++
        [⟨.ok, crc16 s.cfg.crcTable bytes, []⟩]) }

/-- R64, R106: `FRM.ENCODE` yields `frame(cmd, p)` and leaves the slot empty, or stops at the fault. -/
def Obligations.FrmEncodeYieldsFrame : Prop :=
  ∀ (c : Int) (p : List Byte) (s : State),
    if c < 0 ∨ 255 < c ∨ 65535 < p.length then
      frmEncode c p s = .next { s with outbox := s.outbox ++ [⟨.invalidArgument, 0, []⟩] }
    else ∃ t : State, frmEncode c p s = .next t ∧ t.fv = false ∧ t.acc = s.acc ∧
      t.outbox = s.outbox ++
        [⟨.ok, 0, []⟩, ⟨.ok, 0, frame s.cfg (BitVec.ofInt 8 c) p⟩, ⟨.ok, 0, []⟩]

/-- R150, C7: a host that follows the source's two calls, with operands in range, never meets a fault. -/
def Obligations.SourceCallsAreFaultFree : Prop :=
  ∀ s : State, s.faultFree = true →
    (∀ bytes : List Byte, ∃ t : State, execAll (crcCompute bytes) s = .next t ∧ t.faultFree = true) ∧
    ∀ (c : Int) (p : List Byte), 0 ≤ c → c ≤ 255 → p.length ≤ 65535 →
      ∃ t : State, frmEncode c p s = .next t ∧ t.faultFree = true

/-- R145: a `FRM.SER` in the middle of a checksum does not disturb it. -/
def Obligations.SerializeKeepsChecksumInProgress : Prop :=
  ∀ (a b : Byte) (s : State), s.Inv → ∃ t : State,
    execAll [.crcInit, .crcUpd a, .frmSer, .crcUpd b, .crcRd] s = .next t ∧
    t.outbox.getLast? = some ⟨.ok, crc16 s.cfg.crcTable [a, b], []⟩

/-- R108, R34, R17: the emission byte by byte writes exactly the cells of `frame(c, p)`, each once, in
ascending order; `SACC` ends at the checksum; `POS` ends at `PLEN + 7` (R17 and R108 read together, log 14)
and has not wrapped. -/
def Obligations.EmissionProducesFrame : Prop :=
  ∀ (cfg : Config) (c : Byte) (n : Word) (p : List Byte), p.length = n.toNat →
    (emission cfg c n p).out = Memory.ofBytes 0 (frame cfg c p) ∧
    (emission cfg c n p).sacc = crc16 cfg.crcTable (frameBody cfg.lenHiMode c p) ∧
    (emission cfg c n p).pos.toNat = n.toNat + 7

/-- R91's loop, the ascending sequence of `MemWrite(PBUF, i, 1, P[i])`, into `PBUF` as it stands: for every
payload of legal length it succeeds, keeps the canonical form, writes the cells below `L` and leaves every
other cell. The copy-in of the model's `FRM.NEW` reads as that loop below `L`; from `L` on it holds no value,
the MODEL's choice (log 5), so that it is the loop started from no value anywhere. -/
def Obligations.CopyInIsAscendingWrites : Prop :=
  (∀ (m : Memory) (p : List Byte), m.wf → p.length ≤ 65535 → ∃ m' : Memory,
    Memory.writeBytes m 0 p = some m' ∧ m'.wf ∧
    ∀ a, m'.read a = if a < p.length then p[a]? else m.read a) ∧
  (∀ (s : State) (p : List Byte) (m' : Memory), Memory.writeBytes s.pbuf 0 p = some m' →
    ∀ a, a < p.length → (s.copyIn p).pbuf.read a = m'.read a) ∧
  ∀ (s : State) (p : List Byte), p.length ≤ 65535 →
    Memory.writeBytes [] 0 p = some (s.copyIn p).pbuf

/-! ## Encodings -/

/-- Decoding an encoded instruction gives it back, in the record form and in the packed form at the default
widths, with every operand the encoding admits. -/
def Obligations.DecodeEncodeRoundTrip : Prop :=
  ∀ (cfg : Config) (i : Instr), decode (encode i) = .ok i ∧
    (cfg.cmdArgW = 32 → cfg.lenArgW = 32 → i.wf cfg = true →
      decodeWord (encodeWord i) (encodePayload i) = .ok i)

/-- R56 on the packed word (R52): the bits that the selected format does not list are ignored. -/
def Obligations.UnusedWordBitsIgnored : Prop :=
  ∀ (w w' : BitVec 72) (p : List Byte), w.extractLsb' 68 4 = w'.extractLsb' 68 4 →
    (w.extractLsb' 68 4 = 0x1 → w.extractLsb' 0 8 = w'.extractLsb' 0 8) →
    (w.extractLsb' 68 4 = 0x8 → w.extractLsb' 0 64 = w'.extractLsb' 0 64) →
    decodeWord w p = decodeWord w' p

/-- Words written out in 95_test_vectors.md section 3.6 decode to the operations it names. -/
def Obligations.SpecWordsDecode : Prop :=
  decodeWord 0x0F123456789ABCDEF0 [] = .ok .crcInit ∧
  decodeWord 0x1AFFFFFFFFFFFFFF31 [] = .ok (.crcUpd 0x31) ∧
  decodeWord 0x200000000000000000 [] = .ok .crcRd ∧
  decodeWord 0x80FFFFFFFF00000000 [] = .ok (.frmNew (-1) []) ∧
  decodeWord 0x800000002100000008 [1, 2, 3, 4, 5, 6, 7, 8] = .ok (.frmNew 0x21 [1, 2, 3, 4, 5, 6, 7, 8]) ∧
  decodeWord 0x900000000000000000 [] = .ok .frmSer ∧
  decodeWord 0xA00000000000000000 [] = .ok .frmDrop ∧
  decodeWord 0x400000000000000000 [] = .error (.reservedSelector 0x4)

/-! ## Instances -/

/-- R21: no operation of one instance reads or writes the state of another. After a run of the platform, each
instance is what as many steps as the schedule gives it make of that instance alone; so one that the
schedule does not name is unchanged. -/
def Obligations.InstancesAreIsolated : Prop :=
  ∀ (ks : List Nat) (q q' : Platform), Platform.run ks q = .next q' →
    q'.cores.length = q.cores.length ∧
    (∀ (j : Nat) (s : State), q.cores[j]? = some s → ∃ s' : State,
      Sys2Proof.core.run (ks.count j) s = .next s' ∧ q'.cores[j]? = some s') ∧
    ∀ j, j ∉ ks → q'.cores[j]? = q.cores[j]?

/-- R41: between instances there is nothing to order. Every interleaving of the same per-instance sequences
gives the same responses and the same end states. -/
def Obligations.InterleavingDoesNotMatter : Prop :=
  ∀ (ks ks' : List Nat) (q q' : Platform), ks.Perm ks' →
    Platform.run ks q = .next q' → Platform.run ks' q = .next q'

/-- R21: the instances go on sharing one ROM, over a whole run. -/
def Obligations.RomStaysShared : Prop :=
  ∀ (ks : List Nat) (q q' : Platform), q.sharedRom → Platform.run ks q = .next q' → q'.sharedRom

/-! ## The checksum (R79 to R86) -/

/-- R80: the checksum of the empty input, for every table. -/
def Obligations.EmptyInputChecksum : Prop :=
  ∀ t : CrcTable, crc16 t [] = 0xFFFF

/-- R81: incremental composition, for every table and start value. -/
def Obligations.ChecksumComposes : Prop :=
  ∀ (t : CrcTable) (a : Word) (u v : List Byte),
    crc16From t a (u ++ v) = crc16From t (crc16From t a u) v

/-- R84: zero residue, for every table whose entry 0 is 0, both instances among them; so a whole frame,
trailer included, has checksum 0. -/
def Obligations.ZeroResidue : Prop :=
  (∀ (t : CrcTable) (u : List Byte), tableRead t 0 = 0 →
    crc16 t (u ++ [(crc16 t u).setWidth 8, (crc16 t u >>> 8).setWidth 8]) = 0) ∧
  (∀ (cfg : Config) (c : Byte) (p : List Byte), tableRead cfg.crcTable 0 = 0 →
    crc16 cfg.crcTable (frame cfg c p) = 0) ∧
  tableRead tableReflected 0 = 0 ∧ tableRead tableMsb1021 0 = 0

/-- R85: with `TABLE_REFLECTED` the table form equals the bit-serial form. -/
def Obligations.ReflectedUpdateIsBitSerial : Prop :=
  ∀ (a : Word) (b : Byte), upd tableReflected a b = eightTimes reflectedStep (a ^^^ b.setWidth 16)

/-- R86: both tables are linear, hence so are `upd` and `crc16_from` on sequences of equal length. -/
def Obligations.ChecksumIsLinear : Prop :=
  ∀ t : CrcTable, t = tableReflected ∨ t = tableMsb1021 →
    (∀ i j : Byte, tableRead t (i ^^^ j) = tableRead t i ^^^ tableRead t j) ∧
    (∀ (a a' : Word) (b b' : Byte), upd t (a ^^^ a') (b ^^^ b') = upd t a b ^^^ upd t a' b') ∧
    (∀ (a a' : Word) (u u' : List Byte), u.length = u'.length →
      crc16From t (a ^^^ a') (List.zipWith (· ^^^ ·) u u') = crc16From t a u ^^^ crc16From t a' u')

/-- R86: with `TABLE_REFLECTED`, `upd(., b)` is a bijection for every `b`; with `TABLE_MSB1021` it is not. -/
def Obligations.OnlyReflectedUpdateIsBijective : Prop :=
  (∀ b : Byte, Function.Bijective (fun a : Word => upd tableReflected a b)) ∧
  (upd tableMsb1021 0xA189 0x00 = 0x0000 ∧ upd tableMsb1021 0x0000 0x00 = 0x0000) ∧
  ∀ b : Byte, ¬ Function.Injective (fun a : Word => upd tableMsb1021 a b)

/-! ## The frame (R57 to R62, R97 to R105) -/

/-- R57, R58, R61, R97, R98: the layout of the frame, offset by offset. -/
def Obligations.FrameLayout : Prop :=
  ∀ (cfg : Config) (c : Byte) (p : List Byte), p.length ≤ 65535 →
    (frame cfg c p).length = p.length + 8 ∧
    (frame cfg c p).take 3 = [0xAA, 0xAA, 0xAA] ∧
    (frame cfg c p)[3]? = some c ∧
    (frame cfg c p)[4]? = some (BitVec.ofNat 8 p.length) ∧
    (frame cfg c p)[5]? = some (match cfg.lenHiMode with
      | .correct => BitVec.ofNat 8 (p.length / 256)
      | .legacyZero => 0x00) ∧
    (∀ i, i < p.length → (frame cfg c p)[6 + i]? = p[i]?) ∧
    (frame cfg c p)[6 + p.length]? =
      some ((crc16 cfg.crcTable ((frame cfg c p).take (6 + p.length))).setWidth 8) ∧
    (frame cfg c p)[7 + p.length]? =
      some ((crc16 cfg.crcTable ((frame cfg c p).take (6 + p.length))).extractLsb' 8 8)

/-- R100: bytes 4 and 5 decode, low byte first, to the payload length in `CORRECT` mode, to the length mod 256
in `LEGACY_ZERO` mode, and so to the length in both modes up to 255. -/
def Obligations.LengthFieldDecodes : Prop :=
  ∀ (cfg : Config) (c : Byte) (p : List Byte), p.length ≤ 65535 → ∃ lo hi : Byte,
    (frame cfg c p)[4]? = some lo ∧ (frame cfg c p)[5]? = some hi ∧
    (cfg.lenHiMode = .correct → lo.toNat + 256 * hi.toNat = p.length) ∧
    (cfg.lenHiMode = .legacyZero → lo.toNat + 256 * hi.toNat = p.length % 256) ∧
    (p.length ≤ 255 → lo.toNat + 256 * hi.toNat = p.length)

/-- R101: recomputing the checksum over bytes `[0, N+6)` gives the two trailer bytes, low byte first. -/
def Obligations.TrailerIsRecomputedChecksum : Prop :=
  ∀ (cfg : Config) (c : Byte) (p : List Byte), ∃ lo hi : Byte,
    (frame cfg c p).drop (p.length + 6) = [lo, hi] ∧
    (crc16 cfg.crcTable ((frame cfg c p).take (p.length + 6))).toNat = lo.toNat + 256 * hi.toNat

/-- R60: the two modes give the same frame exactly for payloads of at most 255 bytes. -/
def Obligations.ModesAgreeExactlyUpTo255 : Prop :=
  ∀ (cfg : Config) (c : Byte) (p : List Byte), p.length ≤ 65535 →
    (frame { cfg with lenHiMode := .correct } c p = frame { cfg with lenHiMode := .legacyZero } c p ↔
      p.length ≤ 255)

/-- R107, C1: `LEGACY_ZERO` is the reference's `(length << 8) & 0xFF`, always zero. -/
def Obligations.LegacyHighByteIsDefectExpression : Prop :=
  ∀ n : Word, lengthHigh .legacyZero n = ((n <<< 8) &&& 0x00FF#16).setWidth 8 ∧
    lengthHigh .legacyZero n = 0

/-- R59: bit by bit, the high length byte in `CORRECT` mode is `PLEN[15:8]`, the low one `PLEN[7:0]`. -/
def Obligations.LengthBytesAreSlices : Prop :=
  ∀ n : Word, lengthHigh .correct n = n.extractLsb' 8 8 ∧ lowByte n = n.extractLsb' 0 8
end

