-- ==== Sys2Proof/Laws/Decode.lean ====
section
/-! SUPPORT. What the decoder can answer, said once (R51, R55). -/

namespace Sys2Proof

/-- The seven things `decode` can answer, each with its selectors. -/
theorem decode_cases (r : Request) :
    (r.opsel ∈ reservedSelectors ∧ decode r = .error (.reservedSelector r.opsel)) ∨
    (r.opsel = 0x0 ∧ decode r = .ok .crcInit) ∨
    (r.opsel = 0x1 ∧ decode r = .ok (.crcUpd r.byte)) ∨
    (r.opsel = 0x2 ∧ decode r = .ok .crcRd) ∨
    (r.opsel = 0x8 ∧ decode r = .ok (.frmNew r.cmdArg r.src)) ∨
    (r.opsel = 0x9 ∧ decode r = .ok .frmSer) ∨
    (r.opsel = 0xA ∧ decode r = .ok .frmDrop) := by
  obtain ⟨⟨n, hn⟩, b, c, p⟩ := r
  have h16 : n < 16 := hn
  interval_cases n <;> simp [decode, reservedSelectors]

/-- A packed word that decodes, decodes as the record it unpacks to. -/
theorem decode_of_decodeWord {w : BitVec 72} {p : List Byte} {i : Instr} (h : decodeWord w p = .ok i) :
    decode (unpackRequest w p) = .ok i := by
  unfold decodeWord at h
  split at h
  · rename_i hd
    split at h
    · cases h; exact hd
    · cases h
  · exact h

end Sys2Proof
end

