-- ==== Sys2Proof/Laws/Memory.lean ====
section
/-! SUPPORT. What the operations over `PBUF` do: read after write, the canonical form, and what a copied
payload reads as. -/

namespace Sys2Proof.Machine

@[simp] theorem Memory.read_nil (a : Nat) : Memory.read [] a = none := rfl

/-- Read after write, at the same cell and at every other cell. -/
theorem Memory.read_put (m : Memory) (a : Nat) (b : Byte) (x : Nat) :
    (m.put a b).read x = if x = a then some b else m.read x := by
  induction m with
  | nil => simp only [Memory.put, Memory.read]; split <;> split <;> simp_all
  | cons c rest ih =>
    obtain ⟨k, v⟩ := c
    simp only [Memory.put]
    split
    · simp only [Memory.read]; grind
    · split
      · subst_vars; simp only [Memory.read]; grind
      · simp only [Memory.read, ih]; grind

/-- The addresses listed after a write are those listed before it and the one written. -/
theorem Memory.mem_put {m : Memory} {a : Nat} {b : Byte} {c : Host.Cell} (h : c ∈ m.put a b) :
    c = (a, b) ∨ c ∈ m := by
  induction m with
  | nil => simpa [Memory.put] using h
  | cons d rest ih =>
    obtain ⟨k, v⟩ := d
    simp only [Memory.put] at h
    split at h
    · simpa using h
    · split at h
      · simp only [List.mem_cons] at h ⊢; tauto
      · simp only [List.mem_cons] at h ⊢
        rcases h with h | h
        · exact .inr (.inl h)
        · rcases ih h with h | h
          · exact .inl h
          · exact .inr (.inr h)

/-- A write to a cell of `PBUF` keeps the canonical form. -/
theorem Memory.put_wf {m : Memory} {a : Nat} {b : Byte} (hm : m.wf) (ha : a < pbufSize) :
    (m.put a b).wf := by
  constructor
  · induction m with
    | nil => simp [Memory.put]
    | cons d rest ih =>
      obtain ⟨k, v⟩ := d
      obtain ⟨hp, hb⟩ := hm
      rw [List.pairwise_cons] at hp
      have ih' := ih ⟨hp.2, fun c hc => hb c (List.mem_cons_of_mem _ hc)⟩
      simp only [Memory.put]
      split
      · rename_i hlt
        rw [List.pairwise_cons, List.pairwise_cons]
        refine ⟨fun c hc => ?_, hp⟩
        rcases List.mem_cons.1 hc with rfl | hc
        · exact hlt
        · exact Nat.lt_trans hlt (hp.1 c hc)
      · split
        · subst_vars; exact List.pairwise_cons.2 ⟨hp.1, hp.2⟩
        · refine List.pairwise_cons.2 ⟨fun c hc => ?_, ih'⟩
          rcases Memory.mem_put hc with rfl | hc
          · simp only; omega
          · exact hp.1 c hc
  · intro c hc
    rcases Memory.mem_put hc with rfl | hc
    · exact ha
    · exact hm.2 c hc

/-- Everything a write can do: the cell exists, and the canonical form is kept. -/
theorem Memory.write_spec {m m' : Memory} {a : Nat} {b : Byte} (h : m.write a b = some m') :
    a < pbufSize ∧ (∀ x, m'.read x = if x = a then some b else m.read x) ∧ (m.wf → m'.wf) := by
  simp only [Memory.write] at h
  split at h
  · rename_i ha
    obtain rfl := Option.some.inj h
    exact ⟨ha, Memory.read_put m a b, fun hm => Memory.put_wf hm ha⟩
  · cases h

/-- The addresses a copied payload lists. -/
theorem Memory.ofBytes_addresses (p : List Byte) (i : Nat) :
    (Memory.ofBytes i p).map Prod.fst = List.range' i p.length := by
  induction p generalizing i with
  | nil => rfl
  | cons b rest ih => simp [Memory.ofBytes, ih, List.range'_succ]

/-- What a copied payload reads as, at every address. -/
theorem Memory.read_ofBytes (p : List Byte) (i a : Nat) :
    (Memory.ofBytes i p).read a = if i ≤ a then p[a - i]? else none := by
  induction p generalizing i with
  | nil => simp [Memory.ofBytes]
  | cons b rest ih =>
    simp only [Memory.ofBytes, Memory.read, ih]
    by_cases h : i = a
    · simp [h]
    · by_cases h2 : i < a
      · obtain ⟨k, rfl⟩ : ∃ k, a = i + 1 + k := ⟨a - (i + 1), by omega⟩
        have e : i + 1 + k - i = k + 1 := by omega
        simp [h, e, show i ≤ i + 1 + k by omega]
      · simp [h, show ¬ i + 1 ≤ a by omega, show ¬ i ≤ a by omega]

/-- A copied payload of legal length is in canonical form. -/
theorem Memory.ofBytes_wf {p : List Byte} (h : p.length ≤ pbufSize) : (Memory.ofBytes 0 p).wf := by
  have ha := Memory.ofBytes_addresses p 0
  constructor
  · have : ((Memory.ofBytes 0 p).map Prod.fst).Pairwise (· < ·) := by
      rw [ha]; exact List.pairwise_lt_range'
    exact List.pairwise_map.1 this
  · intro c hc
    have : c.1 ∈ (Memory.ofBytes 0 p).map Prod.fst := List.mem_map_of_mem hc
    rw [ha, List.mem_range'_1] at this
    omega

/-- Reading a range succeeds with `p` exactly when each of its cells holds the byte of `p`. -/
theorem Memory.readBytes_eq_some {m : Memory} {i n : Nat} {p : List Byte} :
    m.readBytes i n = some p ↔ p.length = n ∧ ∀ k, k < n → m.read (i + k) = p[k]? := by
  induction n generalizing i p with
  | zero =>
    cases p <;> simp [Memory.readBytes]
  | succ n ih =>
    simp only [Memory.readBytes]
    constructor
    · intro h
      split at h
      · rename_i b rest hb hr
        obtain rfl := Option.some.inj h
        obtain ⟨hl, hk⟩ := ih.1 hr
        refine ⟨by simp [hl], fun k hk' => ?_⟩
        cases k with
        | zero => simpa using hb
        | succ k => simpa [Nat.add_assoc, Nat.add_comm 1 k] using hk k (by omega)
      · cases h
    · rintro ⟨hl, hk⟩
      cases p with
      | nil => simp at hl
      | cons b rest =>
        have h0 : m.read i = some b := by simpa using hk 0 (by omega)
        have hr : m.readBytes (i + 1) n = some rest := ih.2 ⟨by simpa using hl, fun k hk' => by
          simpa [Nat.add_assoc, Nat.add_comm 1 k] using hk (k + 1) (by omega)⟩
        simp [h0, hr]

/-- A copied payload reads back. -/
theorem Memory.readBytes_ofBytes (p : List Byte) :
    (Memory.ofBytes 0 p).readBytes 0 p.length = some p :=
  Memory.readBytes_eq_some.2 ⟨rfl, fun k _ => by simp [Memory.read_ofBytes]⟩

/-- A listed address reads as some byte. -/
theorem Memory.read_isSome {m : Memory} {a : Nat} : (m.read a).isSome ↔ a ∈ m.map Prod.fst := by
  induction m with
  | nil => simp
  | cons c rest ih =>
    obtain ⟨k, v⟩ := c
    simp only [Memory.read, List.map_cons, List.mem_cons]
    split
    · simp_all
    · rw [ih]; constructor
      · exact .inr
      · rintro (h | h)
        · exact absurd h.symm ‹_›
        · exact h

end Sys2Proof.Machine
end

