-- ==== Sys2Proof/Laws/Operands.lean ====
section
/-! SUPPORT. The operand checks and byte extractions as plain arithmetic (R54, R91, R107). -/

namespace Sys2Proof.Machine

theorem commandOutOfRange_iff {c : Int} : commandOutOfRange c = true ↔ c < 0 ∨ 255 < c := by
  rw [commandOutOfRange, Bool.or_eq_true, decide_eq_true_eq, decide_eq_true_eq]
  rfl

theorem lengthOutOfRange_iff {n : Nat} : lengthOutOfRange n = true ↔ 65535 < n := by
  rw [lengthOutOfRange, decide_eq_true_eq]
  rfl

/-- "on success `CMD <- CMDARG[7:0]`, which equals `c`" (R54). -/
theorem commandByte_toNat {c : Int} (h0 : 0 ≤ c) (h1 : c ≤ 255) : ((commandByte c).toNat : Int) = c := by
  simp only [commandByte, BitVec.toNat_ofInt]
  omega

/-- "on success `PLEN <- LENARG[15:0]`, which equals `L`" (R54). -/
theorem lengthWord_toNat {n : Nat} (h : n ≤ 65535) : (lengthWord n).toNat = n := by
  simp only [lengthWord, BitVec.toNat_ofNat]
  omega

/-- Masking with `0xFF` before narrowing to 8 bits changes nothing. -/
theorem maskedByte_eq (w : Word) : (w &&& 0x00FF#16).setWidth 8 = w.setWidth 8 := by
  have h : (0x00FF#16).setWidth 8 = BitVec.allOnes 8 := by decide
  rw [BitVec.setWidth_and, h, BitVec.and_allOnes]

theorem lowByte_eq (w : Word) : lowByte w = w.setWidth 8 := maskedByte_eq w

theorem highByte_eq (w : Word) : highByte w = (w >>> 8).setWidth 8 := maskedByte_eq _

theorem lowByte_toNat (w : Word) : (lowByte w).toNat = w.toNat % 256 := by
  simp [lowByte_eq]

theorem highByte_toNat (w : Word) : (highByte w).toNat = w.toNat / 256 := by
  have := w.isLt
  simp only [highByte_eq, BitVec.toNat_setWidth, BitVec.toNat_ushiftRight, Nat.shiftRight_eq_div_pow]
  omega

end Sys2Proof.Machine
end

