-- ==== Sys2Proof/Laws/PerInstr.lean ====
section
/-! SUPPORT. Laws about the instruction as syntax, one lemma per constructor of Instr. -/

namespace Sys2Proof.Laws

/-- The instruction belongs to the Frame Encoder (R51). -/
def usesFrameEncoder (i : Instr) : Bool :=
  match i with
  | .crcInit => false
  | .crcUpd _ => false
  | .crcRd => false
  | .frmNew _ _ => true
  | .frmSer => true
  | .frmDrop => true

/-- "`OPSEL[3]` selects the unit (0 Checksum Engine, 1 Frame Encoder)", and no operation has a reserved
selector (R51, R55). -/
def SelectorUnit.Statement (i : Instr) : Prop :=
  (encode i).opsel.getLsbD 3 = usesFrameEncoder i ∧ (encode i).opsel ∉ reservedSelectors

theorem SelectorUnit.crcInit : SelectorUnit.Statement .crcInit :=
  ⟨rfl, show (0x0#4) ∉ reservedSelectors by decide⟩

theorem SelectorUnit.crcUpd (b : Byte) : SelectorUnit.Statement (.crcUpd b) :=
  ⟨show (0x1#4).getLsbD 3 = false by decide, show (0x1#4) ∉ reservedSelectors by decide⟩

theorem SelectorUnit.crcRd : SelectorUnit.Statement .crcRd :=
  ⟨rfl, show (0x2#4) ∉ reservedSelectors by decide⟩

theorem SelectorUnit.frmNew (cmd : Int) (p : List Byte) : SelectorUnit.Statement (.frmNew cmd p) :=
  ⟨show (0x8#4).getLsbD 3 = true by decide, show (0x8#4) ∉ reservedSelectors by decide⟩

theorem SelectorUnit.frmSer : SelectorUnit.Statement .frmSer :=
  ⟨rfl, show (0x9#4) ∉ reservedSelectors by decide⟩

theorem SelectorUnit.frmDrop : SelectorUnit.Statement .frmDrop :=
  ⟨rfl, show (0xA#4) ∉ reservedSelectors by decide⟩

end Sys2Proof.Laws
end

