-- ==== Sys2Proof/Laws/Platform.lean ====
section
/-! SUPPORT. What one step of a platform can do, said once (R21, R41). -/

namespace Sys2Proof.Machine

/-- Everything a platform's step can do, if it answers a next platform. -/
theorem Platform.step_next {k : Nat} {q q' : Platform} (h : q.step k = .next q') :
    ∃ s s', q.cores[k]? = some s ∧ Sys2Proof.Machine.step s = .next s' ∧ q' = ⟨q.cores.set k s'⟩ := by
  unfold Platform.step at h
  split at h
  · cases h
  · rename_i s hs
    split at h
    · rename_i s' hs'
      cases h
      exact ⟨s, s', hs, hs', rfl⟩
    · cases h
    · cases h

/-- A platform's step at an instance that steps. -/
theorem Platform.step_of_core {k : Nat} {q : Platform} {s s' : State} (hs : q.cores[k]? = some s)
    (h : Sys2Proof.Machine.step s = .next s') : q.step k = .next ⟨q.cores.set k s'⟩ := by
  simp only [Platform.step, hs, h]

end Sys2Proof.Machine
end

