-- ==== Sys2Proof/Laws/State.lean ====
section
/-! SUPPORT. One lemma per field of State per named update, so that no later proof unfolds a record
update. -/

namespace Sys2Proof.Machine

variable (s : State)

@[simp] theorem State.setAcc_cfg (v : Word) : (s.setAcc v).cfg = s.cfg := rfl
@[simp] theorem State.setAcc_acc (v : Word) : (s.setAcc v).acc = v := rfl
@[simp] theorem State.setAcc_fv (v : Word) : (s.setAcc v).fv = s.fv := rfl
@[simp] theorem State.setAcc_cmd (v : Word) : (s.setAcc v).cmd = s.cmd := rfl
@[simp] theorem State.setAcc_plen (v : Word) : (s.setAcc v).plen = s.plen := rfl
@[simp] theorem State.setAcc_pbuf (v : Word) : (s.setAcc v).pbuf = s.pbuf := rfl
@[simp] theorem State.setAcc_inbox (v : Word) : (s.setAcc v).inbox = s.inbox := rfl
@[simp] theorem State.setAcc_outbox (v : Word) : (s.setAcc v).outbox = s.outbox := rfl

@[simp] theorem State.copyIn_cfg (p : List Byte) : (s.copyIn p).cfg = s.cfg := rfl
@[simp] theorem State.copyIn_acc (p : List Byte) : (s.copyIn p).acc = s.acc := rfl
@[simp] theorem State.copyIn_fv (p : List Byte) : (s.copyIn p).fv = s.fv := rfl
@[simp] theorem State.copyIn_cmd (p : List Byte) : (s.copyIn p).cmd = s.cmd := rfl
@[simp] theorem State.copyIn_plen (p : List Byte) : (s.copyIn p).plen = s.plen := rfl
@[simp] theorem State.copyIn_pbuf (p : List Byte) : (s.copyIn p).pbuf = Memory.ofBytes 0 p := rfl
@[simp] theorem State.copyIn_inbox (p : List Byte) : (s.copyIn p).inbox = s.inbox := rfl
@[simp] theorem State.copyIn_outbox (p : List Byte) : (s.copyIn p).outbox = s.outbox := rfl

@[simp] theorem State.setCmd_cfg (c : Byte) : (s.setCmd c).cfg = s.cfg := rfl
@[simp] theorem State.setCmd_acc (c : Byte) : (s.setCmd c).acc = s.acc := rfl
@[simp] theorem State.setCmd_fv (c : Byte) : (s.setCmd c).fv = s.fv := rfl
@[simp] theorem State.setCmd_cmd (c : Byte) : (s.setCmd c).cmd = c := rfl
@[simp] theorem State.setCmd_plen (c : Byte) : (s.setCmd c).plen = s.plen := rfl
@[simp] theorem State.setCmd_pbuf (c : Byte) : (s.setCmd c).pbuf = s.pbuf := rfl
@[simp] theorem State.setCmd_inbox (c : Byte) : (s.setCmd c).inbox = s.inbox := rfl
@[simp] theorem State.setCmd_outbox (c : Byte) : (s.setCmd c).outbox = s.outbox := rfl

@[simp] theorem State.setPlen_cfg (n : Word) : (s.setPlen n).cfg = s.cfg := rfl
@[simp] theorem State.setPlen_acc (n : Word) : (s.setPlen n).acc = s.acc := rfl
@[simp] theorem State.setPlen_fv (n : Word) : (s.setPlen n).fv = s.fv := rfl
@[simp] theorem State.setPlen_cmd (n : Word) : (s.setPlen n).cmd = s.cmd := rfl
@[simp] theorem State.setPlen_plen (n : Word) : (s.setPlen n).plen = n := rfl
@[simp] theorem State.setPlen_pbuf (n : Word) : (s.setPlen n).pbuf = s.pbuf := rfl
@[simp] theorem State.setPlen_inbox (n : Word) : (s.setPlen n).inbox = s.inbox := rfl
@[simp] theorem State.setPlen_outbox (n : Word) : (s.setPlen n).outbox = s.outbox := rfl

@[simp] theorem State.setFrameValid_cfg : s.setFrameValid.cfg = s.cfg := rfl
@[simp] theorem State.setFrameValid_acc : s.setFrameValid.acc = s.acc := rfl
@[simp] theorem State.setFrameValid_fv : s.setFrameValid.fv = true := rfl
@[simp] theorem State.setFrameValid_cmd : s.setFrameValid.cmd = s.cmd := rfl
@[simp] theorem State.setFrameValid_plen : s.setFrameValid.plen = s.plen := rfl
@[simp] theorem State.setFrameValid_pbuf : s.setFrameValid.pbuf = s.pbuf := rfl
@[simp] theorem State.setFrameValid_inbox : s.setFrameValid.inbox = s.inbox := rfl
@[simp] theorem State.setFrameValid_outbox : s.setFrameValid.outbox = s.outbox := rfl

@[simp] theorem State.clearFrameValid_cfg : s.clearFrameValid.cfg = s.cfg := rfl
@[simp] theorem State.clearFrameValid_acc : s.clearFrameValid.acc = s.acc := rfl
@[simp] theorem State.clearFrameValid_fv : s.clearFrameValid.fv = false := rfl
@[simp] theorem State.clearFrameValid_cmd : s.clearFrameValid.cmd = s.cmd := rfl
@[simp] theorem State.clearFrameValid_plen : s.clearFrameValid.plen = s.plen := rfl
@[simp] theorem State.clearFrameValid_pbuf : s.clearFrameValid.pbuf = s.pbuf := rfl
@[simp] theorem State.clearFrameValid_inbox : s.clearFrameValid.inbox = s.inbox := rfl
@[simp] theorem State.clearFrameValid_outbox : s.clearFrameValid.outbox = s.outbox := rfl

@[simp] theorem State.answer_cfg (r : Response) : (s.answer r).cfg = s.cfg := rfl
@[simp] theorem State.answer_acc (r : Response) : (s.answer r).acc = s.acc := rfl
@[simp] theorem State.answer_fv (r : Response) : (s.answer r).fv = s.fv := rfl
@[simp] theorem State.answer_cmd (r : Response) : (s.answer r).cmd = s.cmd := rfl
@[simp] theorem State.answer_plen (r : Response) : (s.answer r).plen = s.plen := rfl
@[simp] theorem State.answer_pbuf (r : Response) : (s.answer r).pbuf = s.pbuf := rfl
@[simp] theorem State.answer_inbox (r : Response) : (s.answer r).inbox = s.inbox := rfl
@[simp] theorem State.answer_outbox (r : Response) : (s.answer r).outbox = s.outbox ++ [r] := rfl

@[simp] theorem State.respond_cfg (d : Word) : (s.respond d).cfg = s.cfg := rfl
@[simp] theorem State.respond_acc (d : Word) : (s.respond d).acc = s.acc := rfl
@[simp] theorem State.respond_fv (d : Word) : (s.respond d).fv = s.fv := rfl
@[simp] theorem State.respond_cmd (d : Word) : (s.respond d).cmd = s.cmd := rfl
@[simp] theorem State.respond_plen (d : Word) : (s.respond d).plen = s.plen := rfl
@[simp] theorem State.respond_pbuf (d : Word) : (s.respond d).pbuf = s.pbuf := rfl
@[simp] theorem State.respond_inbox (d : Word) : (s.respond d).inbox = s.inbox := rfl
@[simp] theorem State.respond_outbox (d : Word) : (s.respond d).outbox = s.outbox ++ [⟨.ok, d, []⟩] := rfl

@[simp] theorem State.respondOut_cfg (o : List Byte) : (s.respondOut o).cfg = s.cfg := rfl
@[simp] theorem State.respondOut_acc (o : List Byte) : (s.respondOut o).acc = s.acc := rfl
@[simp] theorem State.respondOut_fv (o : List Byte) : (s.respondOut o).fv = s.fv := rfl
@[simp] theorem State.respondOut_cmd (o : List Byte) : (s.respondOut o).cmd = s.cmd := rfl
@[simp] theorem State.respondOut_plen (o : List Byte) : (s.respondOut o).plen = s.plen := rfl
@[simp] theorem State.respondOut_pbuf (o : List Byte) : (s.respondOut o).pbuf = s.pbuf := rfl
@[simp] theorem State.respondOut_inbox (o : List Byte) : (s.respondOut o).inbox = s.inbox := rfl
@[simp] theorem State.respondOut_outbox (o : List Byte) : (s.respondOut o).outbox = s.outbox ++ [⟨.ok, 0, o⟩] := rfl

@[simp] theorem State.raise_cfg (f : Status) : (s.raise f).cfg = s.cfg := rfl
@[simp] theorem State.raise_acc (f : Status) : (s.raise f).acc = s.acc := rfl
@[simp] theorem State.raise_fv (f : Status) : (s.raise f).fv = s.fv := rfl
@[simp] theorem State.raise_cmd (f : Status) : (s.raise f).cmd = s.cmd := rfl
@[simp] theorem State.raise_plen (f : Status) : (s.raise f).plen = s.plen := rfl
@[simp] theorem State.raise_pbuf (f : Status) : (s.raise f).pbuf = s.pbuf := rfl
@[simp] theorem State.raise_inbox (f : Status) : (s.raise f).inbox = s.inbox := rfl
@[simp] theorem State.raise_outbox (f : Status) : (s.raise f).outbox = s.outbox ++ [⟨f, 0, []⟩] := rfl

@[simp] theorem State.resetEvent_cfg : s.resetEvent.cfg = s.cfg := rfl
@[simp] theorem State.resetEvent_acc : s.resetEvent.acc = 0xFFFF := rfl
@[simp] theorem State.resetEvent_fv : s.resetEvent.fv = false := rfl
@[simp] theorem State.resetEvent_cmd : s.resetEvent.cmd = 0 := rfl
@[simp] theorem State.resetEvent_plen : s.resetEvent.plen = 0 := rfl
@[simp] theorem State.resetEvent_pbuf : s.resetEvent.pbuf = [] := rfl
@[simp] theorem State.resetEvent_inbox : s.resetEvent.inbox = s.inbox := rfl
@[simp] theorem State.resetEvent_outbox : s.resetEvent.outbox = s.outbox := rfl

/-! The state right after reset (R22). -/

variable (cfg : Config)

@[simp] theorem State.resetWith_cfg : (State.resetWith cfg).cfg = cfg := rfl
@[simp] theorem State.resetWith_acc : (State.resetWith cfg).acc = 0xFFFF := rfl
@[simp] theorem State.resetWith_fv : (State.resetWith cfg).fv = false := rfl
@[simp] theorem State.resetWith_cmd : (State.resetWith cfg).cmd = 0 := rfl
@[simp] theorem State.resetWith_plen : (State.resetWith cfg).plen = 0 := rfl
@[simp] theorem State.resetWith_pbuf : (State.resetWith cfg).pbuf = [] := rfl
@[simp] theorem State.resetWith_inbox : (State.resetWith cfg).inbox = [] := rfl
@[simp] theorem State.resetWith_outbox : (State.resetWith cfg).outbox = [] := rfl

/-! The last response after an update that gives one. -/

@[simp] theorem State.lastResponse_answer (r : Response) : (s.answer r).outbox.getLast? = some r := by
  simp

end Sys2Proof.Machine
end

