-- ==== Sys2Proof/Laws/Step.lean ====
section
/-! SUPPORT. What one operation and one step can do, said once: a proof cites these and does not unfold
`exec` or `step`. -/

namespace Sys2Proof.Machine

/-- The whole of `FRM.NEW` (R91, R121): it refuses, writing nothing, or it writes the whole slot. -/
theorem execFrmNew_cases (c : Int) (p : List Byte) (s : State) :
    ((c < 0 ∨ 255 < c ∨ 65535 < p.length) ∧ execFrmNew c p s = .next (s.raise .invalidArgument)) ∨
    ((0 ≤ c ∧ c ≤ 255 ∧ p.length ≤ 65535) ∧
      execFrmNew c p s = .next (((((s.copyIn p).setCmd (commandByte c)).setPlen
        (lengthWord p.length)).setFrameValid).respond 0)) := by
  unfold execFrmNew
  split
  · rename_i hc
    exact .inl ⟨by have := commandOutOfRange_iff.1 hc; tauto, rfl⟩
  · split
    · rename_i hl
      exact .inl ⟨.inr (.inr (lengthOutOfRange_iff.1 hl)), rfl⟩
    · rename_i hc hl
      rw [commandOutOfRange_iff] at hc
      rw [lengthOutOfRange_iff] at hl
      exact .inr ⟨⟨by omega, by omega, by omega⟩, rfl⟩

/-- The whole of `FRM.SER` (R94, R122): the three ways it can end. -/
theorem execFrmSer_cases (s : State) :
    (s.fv = false ∧ execFrmSer s = .next (s.raise .invalidState)) ∨
    (∃ p, s.fv = true ∧ s.payload = some p ∧ execFrmSer s = .next (s.respondOut
      (appendChecksum s.cfg.crcTable (header s.cfg.lenHiMode s.cmd s.plen ++ p)))) ∨
    (s.fv = true ∧ s.payload = none ∧ execFrmSer s = .fault .undefinedCell) := by
  cases hf : s.fv with
  | false => exact .inl ⟨rfl, by simp [execFrmSer, hf]⟩
  | true =>
    cases hp : s.payload with
    | none => exact .inr (.inr ⟨rfl, rfl, by simp [execFrmSer, hf, hp]⟩)
    | some p => exact .inr (.inl ⟨p, rfl, rfl, by simp [execFrmSer, hf, hp]⟩)

/-- Every operation gives exactly one response, leaves the parameters and the host's pending events
alone, and changes architectural state only in the three ways listed. -/
theorem exec_next_cases {i : Instr} {s t : State} (h : exec i s = .next t) :
    ∃ r : Response, t.outbox = s.outbox ++ [r] ∧ t.cfg = s.cfg ∧ t.inbox = s.inbox ∧
      ((t.fv = s.fv ∧ t.cmd = s.cmd ∧ t.plen = s.plen ∧ t.pbuf = s.pbuf) ∨
       (i = .frmDrop ∧ t.fv = false ∧ t.cmd = s.cmd ∧ t.plen = s.plen ∧ t.pbuf = s.pbuf ∧ t.acc = s.acc) ∨
       (∃ c p, i = .frmNew c p ∧ 0 ≤ c ∧ c ≤ 255 ∧ p.length ≤ 65535 ∧ t.fv = true ∧
          t.cmd = commandByte c ∧ t.plen = lengthWord p.length ∧ t.pbuf = Memory.ofBytes 0 p ∧
          t.acc = s.acc)) := by
  cases i with
  | crcInit => cases h; exact ⟨_, rfl, rfl, rfl, .inl ⟨rfl, rfl, rfl, rfl⟩⟩
  | crcUpd b => cases h; exact ⟨_, rfl, rfl, rfl, .inl ⟨rfl, rfl, rfl, rfl⟩⟩
  | crcRd => cases h; exact ⟨_, rfl, rfl, rfl, .inl ⟨rfl, rfl, rfl, rfl⟩⟩
  | frmNew c p =>
    rcases execFrmNew_cases c p s with ⟨-, e⟩ | ⟨hr, e⟩ <;> rw [exec, e] at h <;> cases h
    · exact ⟨_, rfl, rfl, rfl, .inl ⟨rfl, rfl, rfl, rfl⟩⟩
    · exact ⟨_, rfl, rfl, rfl, .inr (.inr ⟨c, p, rfl, hr.1, hr.2.1, hr.2.2, rfl, rfl, rfl, rfl, rfl⟩)⟩
  | frmSer =>
    rcases execFrmSer_cases s with ⟨-, e⟩ | ⟨p, -, -, e⟩ | ⟨-, -, e⟩ <;> rw [exec, e] at h <;> cases h
    · exact ⟨_, rfl, rfl, rfl, .inl ⟨rfl, rfl, rfl, rfl⟩⟩
    · exact ⟨_, rfl, rfl, rfl, .inl ⟨rfl, rfl, rfl, rfl⟩⟩
  | frmDrop => cases h; exact ⟨_, rfl, rfl, rfl, .inr (.inl ⟨rfl, rfl, rfl, rfl, rfl, rfl⟩)⟩

/-- Everything one step can do, if it answers a next state. -/
theorem step_next_cases {s t : State} (h : step s = .next t) :
    (s.inbox = [] ∧ t = s) ∨
    (∃ rest, s.inbox = .reset :: rest ∧ t = State.resetEvent { s with inbox := rest }) ∨
    (∃ r rest op, s.inbox = .request r :: rest ∧ decode r = .error op ∧
      t = State.raise { s with inbox := rest } .illegalOperation) ∨
    (∃ r rest i, s.inbox = .request r :: rest ∧ decode r = .ok i ∧ i.wf s.cfg = true ∧
      exec i { s with inbox := rest } = .next t) := by
  unfold step at h
  cases hin : s.inbox with
  | nil => rw [hin] at h; cases h; exact .inl ⟨rfl, rfl⟩
  | cons e rest =>
    rw [hin] at h
    cases e with
    | reset => cases h; exact .inr (.inl ⟨rest, rfl, rfl⟩)
    | request r =>
      cases hd : decode r with
      | error op =>
        simp only [takeEvent, takeRequest, hd] at h
        cases h
        exact .inr (.inr (.inl ⟨r, rest, op, rfl, hd, rfl⟩))
      | ok i =>
        simp only [takeEvent, takeRequest, hd] at h
        split at h
        · rename_i hw
          exact .inr (.inr (.inr ⟨r, rest, i, rfl, hd, hw, h⟩))
        · cases h

end Sys2Proof.Machine
end

