-- ==== Sys2Proof/Tests/Witnesses.lean ====
section
/-! SUPPORT. Witnesses: concrete states and operands that meet the hypotheses of each obligation that has any,
together, clause by clause where a statement has several. -/

namespace Sys2Proof.Tests

open Sys2Proof Sys2Proof.Machine

theorem withFrame_inv : withFrame.Inv := ⟨by decide, by decide, fun _ => by decide⟩

/-- A state with a Frame of no payload: the other end of `PLEN`'s range that is cheap to write. -/
def withEmptyFrame : State := { State.reset with fv := true, cmd := 0xFF }

theorem withEmptyFrame_inv : withEmptyFrame.Inv := ⟨by decide, by decide, fun _ => by decide⟩

theorem witness_CrcInitStartsComputation : (⟨0x0, 1, 2, [3]⟩ : Request).opsel = 0x0 := by decide

theorem witness_CrcUpdAbsorbsByte : tableRead State.reset.cfg.crcTable 0 = 0 ∧
    (⟨0x1, 1, 2, [3]⟩ : Request).opsel = 0x1 := by decide +kernel

theorem witness_CrcRdDeliversAccumulator : (⟨0x2, 1, 2, [3]⟩ : Request).opsel = 0x2 := by decide

theorem witness_FrmNewConstructsOrRefuses : (⟨0x8, 1, 2, [3]⟩ : Request).opsel = 0x8 := by decide

/-- The first operand values taken and refused on either side (section 3.1). -/
theorem witness_FrmNew_command_boundaries :
    (nextState (exec (.frmNew 0 []) State.reset)).map State.fv = some true ∧
    (nextState (exec (.frmNew 255 []) State.reset)).map State.fv = some true ∧
    (nextState (exec (.frmNew (-1) []) State.reset)).map State.fv = some false ∧
    (nextState (exec (.frmNew 256 []) State.reset)).map State.fv = some false := by decide +kernel

/-- `zeros(n)` of section 3.3. -/
def zeros (n : Nat) : List Byte := List.replicate n 0

theorem zeros_length (n : Nat) : (zeros n).length = n := List.length_replicate

theorem witness_FrmNew_length_boundaries : ¬ 65535 < (zeros 65535).length ∧ 65535 < (zeros 65536).length := by
  rw [zeros_length, zeros_length]; decide

theorem witness_FrmNewLeavesNoOtherCell : (0 : Int) ≤ 255 ∧ (255 : Int) ≤ 255 ∧ (zeros 65535).length ≤ 65535 :=
  ⟨by decide, by decide, (zeros_length _).le⟩

theorem witness_FrmSerSerializesOrFaults : State.reset.fv = false ∧
    (withFrame.fv = true ∧ [(0x00 : Byte)].length = withFrame.plen.toNat ∧
      ∀ a, a < withFrame.plen.toNat → withFrame.pbuf.read a = [(0x00 : Byte)][a]?) ∧
    (withEmptyFrame.fv = true ∧ ([] : List Byte).length = withEmptyFrame.plen.toNat) ∧
    (⟨0x9, 1, 2, [3]⟩ : Request).opsel = 0x9 := by decide

theorem witness_FrmSerCompletesOnValidFrame : withFrame.Inv ∧ withFrame.fv = true := ⟨withFrame_inv, rfl⟩

/-- A state no run reaches: `FV` is 1 and cell 0 holds no value. -/
def withHole : State := { withFrame with pbuf := [] }

theorem witness_FrmSerStopsOnUndefinedCell : withHole.fv = true ∧ 0 < withHole.plen.toNat ∧
    withHole.pbuf.read 0 = none := by decide

theorem witness_FrmDropClearsFrameValid : (⟨0xA, 1, 2, [3]⟩ : Request).opsel = 0xA := by decide

theorem witness_FrameEncoderIgnoresAccumulator : (∃ t, exec (.frmNew 0x25 [1]) withFrame = .next t) ∧
    (∃ t, exec .frmSer withFrame = .next t) ∧ ∃ t, exec .frmDrop withFrame = .next t :=
  ⟨⟨_, rfl⟩, ⟨_, rfl⟩, ⟨_, rfl⟩⟩

theorem witness_ChecksumEngineIgnoresFrameSlot : (Instr.crcUpd 7 = .crcInit ∨ (∃ b, Instr.crcUpd 7 = .crcUpd b) ∨
    Instr.crcUpd 7 = .crcRd) := .inr (.inl ⟨7, rfl⟩)

/-- The same frame slot, another `ACC`. -/
def withFrameOtherAcc : State := { withFrame with acc := 0 }

theorem witness_SerializeIsIdempotent : (∃ t, exec .frmSer withFrame = .next t) ∧
    withFrameOtherAcc.cfg = withFrame.cfg ∧ withFrameOtherAcc.fv = withFrame.fv ∧
    withFrameOtherAcc.cmd = withFrame.cmd ∧ withFrameOtherAcc.plen = withFrame.plen ∧
    withFrameOtherAcc.pbuf = withFrame.pbuf :=
  ⟨⟨_, rfl⟩, rfl, rfl, rfl, rfl, rfl⟩

theorem witness_SerializeEmitsLatestFrame : (0 : Int) ≤ 255 ∧ (255 : Int) ≤ 255 ∧
    (zeros 65535).length ≤ 65535 ∧
    ∀ i ∈ [Instr.crcUpd 7, .frmSer, .frmNew 256 []], i = .crcInit ∨ (∃ b, i = .crcUpd b) ∨ i = .crcRd ∨
      i = .frmSer ∨ ∃ c p, i = .frmNew c p ∧ (c < 0 ∨ 255 < c ∨ 65535 < p.length) :=
  ⟨by decide, by decide, (zeros_length _).le, by simp⟩

theorem witness_RefusedNewLeavesOlderFrame : ((-1 : Int) < 0 ∨ 255 < (-1 : Int) ∨ 65535 < ([] : List Byte).length) ∧
    exec .frmSer State.reset = .next { State.reset with outbox := State.reset.outbox ++ [⟨.invalidState, 0, []⟩] } :=
  ⟨by decide, rfl⟩

theorem witness_StepRunsDecodedInstruction :
    (pending withFrame [.request (encode (.crcUpd 7))]).inbox = .request (encode (.crcUpd 7)) :: [] ∧
    decode (encode (.crcUpd 7)) = .ok (.crcUpd 7) ∧ (Instr.crcUpd 7).wf withFrame.cfg = true := by
  exact ⟨rfl, rfl, rfl⟩

theorem witness_FetchWordRunsNext : decodeTableWord 72 0x800000002500000000 = some (.frmNew 0x25 []) ∧
    (Instr.frmNew 0x25 []).wf State.reset.cfg = true := by decide

theorem witness_UnformableRequestRefused : decode ⟨0x8, 0, 2147483648, []⟩ = .ok (.frmNew 2147483648 []) ∧
    (Instr.frmNew 2147483648 []).wf State.reset.cfg = false := by decide

theorem witness_ReservedSelectorsAnswerIllegalOperation :
    (pending withFrame [.request reservedRequest]).inbox = .request reservedRequest :: [] ∧
    reservedRequest.opsel ∈ [0x3#4, 0x4#4, 0x5#4, 0x6#4, 0x7#4, 0xB#4, 0xC#4, 0xD#4, 0xE#4, 0xF#4] ∧
    (encode .frmDrop).opsel ∉ [0x3#4, 0x4#4, 0x5#4, 0x6#4, 0x7#4, 0xB#4, 0xC#4, 0xD#4, 0xE#4, 0xF#4] :=
  ⟨rfl, by decide, by decide⟩

/-- A selector that is not reserved, and the response it gets. -/
theorem witness_ReservedSelectors_other : (encode .frmDrop).opsel ∉
      [0x3#4, 0x4#4, 0x5#4, 0x6#4, 0x7#4, 0xB#4, 0xC#4, 0xD#4, 0xE#4, 0xF#4] ∧
    ∃ t, step (pending withFrame [.request (encode .frmDrop)]) = .next t ∧
      t.outbox = (pending withFrame [.request (encode .frmDrop)]).outbox ++ [⟨.ok, 0, []⟩] :=
  ⟨by decide, _, rfl, rfl⟩

theorem witness_UnusedOperandFieldsIgnored : (⟨0x1, 5, 2, [3]⟩ : Request).opsel = (⟨0x1, 5, -7, []⟩ : Request).opsel ∧
    (⟨0x1, 5, 2, [3]⟩ : Request).byte = (⟨0x1, 5, -7, []⟩ : Request).byte ∧ (⟨0x1, 5, 2, [3]⟩ : Request).opsel ≠ 0x8 := by
  decide

theorem witness_EachRequestHasOneResponse : ∃ t, step (pending withFrame [.request (encode .frmSer)]) = .next t :=
  ⟨_, rfl⟩

/-- The state after a reserved selector. -/
def afterReserved : State :=
  { pending withFrame [] with outbox := [⟨.illegalOperation, 0, []⟩] }

/-- For FaultWritesNothing and FaultCausesAreExact. -/
theorem witness_FaultWritesNothing : step (pending withFrame [.request reservedRequest]) = .next afterReserved ∧
    afterReserved.outbox = (pending withFrame [.request reservedRequest]).outbox ++ [⟨.illegalOperation, 0, []⟩] ∧
    Status.illegalOperation ≠ .ok := ⟨rfl, rfl, by decide⟩

theorem witness_StepKeepsInvariant : withFrame.Inv ∧ ∃ t, step withFrame = .next t := ⟨withFrame_inv, ⟨_, rfl⟩⟩

theorem witness_ResetMeetsInvariant : Config.wf ⟨tableMsb1021, .legacyZero, 9, 17⟩ := by decide

theorem pending_inv {s : State} (es : List HostEvent) (h : s.Inv) : (pending s es).Inv :=
  ⟨h.cfg_wf, h.pbuf_wf, h.slot⟩

theorem witness_EveryPendingRequestIsAnswered :
    (pending withFrame [.request (encode .frmSer), .reset, .request reservedRequest]).Inv ∧
    ∀ e ∈ [HostEvent.request (encode .frmSer), .reset, .request reservedRequest],
      e.formable withFrame.cfg = true := ⟨pending_inv _ withFrame_inv, by decide⟩

/-- For ParametersNeverChange and EarlierResponsesStand. -/
theorem witness_ParametersNeverChange :
    ∃ t, Sys2Proof.core.run 1 (pending withFrame [.request (encode .crcInit)]) = .next t := ⟨_, rfl⟩

theorem witness_FrameSlotIsImmutable : (∃ t, step (pending withFrame [.request (encode (.frmNew 256 []))]) = .next t) ∧
    (encode (.frmNew 256 [])).opsel ≠ 0xA ∧
    ¬ ((encode (.frmNew 256 [])).opsel = 0x8 ∧ 0 ≤ (encode (.frmNew 256 [])).cmdArg ∧
      (encode (.frmNew 256 [])).cmdArg ≤ 255 ∧ (encode (.frmNew 256 [])).src.length ≤ 65535) :=
  ⟨⟨_, rfl⟩, by decide, by decide⟩

/-- Two states that differ in `CMD`, `PLEN` and `PBUF` only, with `FV` = 0. -/
theorem witness_UnreadableSlotIsInvisible :
    State.reset.SameReadable { State.reset with cmd := 0x30, plen := 1, pbuf := [(0, 0x55)] } :=
  ⟨rfl, rfl, rfl, rfl, rfl, fun h => by cases h⟩

theorem witness_IdleKeepsState : withFrame.inbox = [] := rfl

/-- For ResetEventResetsState and ResetModelChoices. -/
theorem witness_ResetEventResetsState : (pending withFrame [.reset]).inbox = .reset :: [] := rfl

theorem witness_SourceCallsAreFaultFree : withFrame.faultFree = true ∧ (zeros 65535).length ≤ 65535 :=
  ⟨rfl, (zeros_length _).le⟩

theorem witness_SerializeKeepsChecksumInProgress : withEmptyFrame.Inv := withEmptyFrame_inv

theorem witness_EmissionProducesFrame : [(1 : Byte), 2].length = (2 : Word).toNat := by decide

theorem witness_CopyInIsAscendingWrites : withFrame.pbuf.wf ∧ (zeros 65535).length ≤ 65535 ∧
    Memory.writeBytes withFrame.pbuf 0 [7, 8] = some [(0, 7), (1, 8)] :=
  ⟨by decide, (zeros_length _).le, by decide⟩

/-- A cell above the payload keeps its byte in R91's loop. -/
theorem test_writeBytes_keeps_other_cells :
    Memory.writeBytes [(0, 1), (3, 9)] 0 [7, 8] = some [(0, 7), (1, 8), (3, 9)] := by decide

theorem witness_DecodeEncodeRoundTrip : defaultConfig.cmdArgW = 32 ∧ defaultConfig.lenArgW = 32 ∧
    (Instr.frmNew (-2147483648) [1]).wf defaultConfig = true := by decide

theorem witness_UnusedWordBitsIgnored :
    (0x1AFFFFFFFFFFFFFF31 : BitVec 72).extractLsb' 68 4 = (0x100000000000000031 : BitVec 72).extractLsb' 68 4 ∧
    (0x1AFFFFFFFFFFFFFF31 : BitVec 72).extractLsb' 0 8 = (0x100000000000000031 : BitVec 72).extractLsb' 0 8 := by decide

/-- Two instances sharing one ROM, one event pending at each (P6). -/
def twoInstances : Platform :=
  ⟨[pending State.reset [.request (encode .crcInit)], pending State.reset [.request (encode .crcRd)]]⟩

/-- For InstancesAreIsolated, InterleavingDoesNotMatter and RomStaysShared. -/
theorem witness_InterleavingDoesNotMatter : [0, 1].Perm [1, 0] ∧ (∃ q, Platform.run [0, 1] twoInstances = .next q) ∧
    2 ∉ [0, 1] ∧ twoInstances.cores[1]? = some (pending State.reset [.request (encode .crcRd)]) ∧
    twoInstances.sharedRom := by
  refine ⟨by decide, ⟨_, rfl⟩, by decide, rfl, ?_⟩
  intro s hs t ht
  simp only [twoInstances, List.mem_cons, List.not_mem_nil, or_false] at hs ht
  rcases hs with rfl | rfl <;> rcases ht with rfl | rfl <;> rfl

theorem witness_ZeroResidue : tableRead tableReflected 0 = 0 := by decide +kernel

theorem witness_ChecksumIsLinear : [(1 : Byte), 2].length = [(3 : Byte), 4].length := by decide

/-- For FrameLayout, LengthFieldDecodes and ModesAgreeExactlyUpTo255, on both sides of 255. -/
theorem witness_FrameLayout : (zeros 255).length ≤ 255 ∧ ¬ (zeros 256).length ≤ 255 ∧
    (zeros 65535).length ≤ 65535 := by
  rw [zeros_length, zeros_length, zeros_length]; decide

end Sys2Proof.Tests
end

section
/-! PROOFS. Which selector an instruction was decoded from, when an operation leaves the frame slot alone,
and what `FRM.SER` answers without a frame; from these the obligations O26 (R20) and O31 (R22). -/

namespace Sys2Proof

/-- `FRM.DROP` has one selector (R51). -/
theorem opsel_of_decode_frmDrop {r : Request} (h : decode r = .ok .frmDrop) : r.opsel = 0xA := by
  rcases decode_cases r with ⟨-, e⟩ | ⟨-, e⟩ | ⟨-, e⟩ | ⟨-, e⟩ | ⟨-, e⟩ | ⟨-, e⟩ | ⟨hop, e⟩ <;>
    rw [h] at e <;> cases e
  exact hop

/-- `FRM.NEW` has one selector, and its operands are the request's (R50, R51). -/
theorem fields_of_decode_frmNew {r : Request} {c : Int} {p : List Byte} (h : decode r = .ok (.frmNew c p)) :
    r.opsel = 0x8 ∧ c = r.cmdArg ∧ p = r.src := by
  rcases decode_cases r with ⟨-, e⟩ | ⟨-, e⟩ | ⟨-, e⟩ | ⟨-, e⟩ | ⟨hop, e⟩ | ⟨-, e⟩ | ⟨-, e⟩ <;>
    rw [h] at e <;> cases e
  exact ⟨hop, rfl, rfl⟩

end Sys2Proof

namespace Sys2Proof.Machine

/-- The slot's frame rule (R20, R70, R94): an operation that is neither `FRM.DROP` nor a `FRM.NEW` with
legal operands keeps `FV`, `CMD`, `PLEN` and `PBUF`. -/
theorem exec_keeps_slot {i : Instr} {s t : State} (h : exec i s = .next t) (hdrop : i ≠ .frmDrop)
    (hnew : ∀ c p, i = .frmNew c p → ¬ (0 ≤ c ∧ c ≤ 255 ∧ p.length ≤ 65535)) :
    t.fv = s.fv ∧ t.cmd = s.cmd ∧ t.plen = s.plen ∧ t.pbuf = s.pbuf := by
  obtain ⟨-, -, -, -, hslot | ⟨hi, -⟩ | ⟨c, p, hi, hc0, hc1, hl, -⟩⟩ := exec_next_cases h
  · exact hslot
  · exact absurd hi hdrop
  · exact absurd ⟨hc0, hc1, hl⟩ (hnew c p hi)

/-- A step keeps the slot unless its event is a reset, a `FRM.DROP` or a `FRM.NEW` with legal operands. -/
theorem step_keeps_slot {s t : State} (h : step s = .next t) (hreset : ∀ rest, s.inbox ≠ .reset :: rest)
    (hreq : ∀ r rest, s.inbox = .request r :: rest → r.opsel ≠ 0xA ∧
      ¬ (r.opsel = 0x8 ∧ 0 ≤ r.cmdArg ∧ r.cmdArg ≤ 255 ∧ r.src.length ≤ 65535)) :
    t.fv = s.fv ∧ t.cmd = s.cmd ∧ t.plen = s.plen ∧ t.pbuf = s.pbuf := by
  rcases step_next_cases h with
    ⟨-, rfl⟩ | ⟨rest, hin, -⟩ | ⟨r, rest, op, -, -, rfl⟩ | ⟨r, rest, i, hin, hdec, -, hexec⟩
  case inl => exact ⟨rfl, rfl, rfl, rfl⟩
  case inr.inl => exact absurd hin (hreset rest)
  case inr.inr.inl => exact ⟨rfl, rfl, rfl, rfl⟩
  case inr.inr.inr =>
    obtain ⟨hopDrop, hopNew⟩ := hreq r rest hin
    refine exec_keeps_slot (s := { s with inbox := rest }) hexec ?_ ?_
    · rintro rfl
      exact hopDrop (opsel_of_decode_frmDrop hdec)
    · rintro c p rfl hlegal
      obtain ⟨hop, rfl, rfl⟩ := fields_of_decode_frmNew hdec
      exact hopNew ⟨hop, hlegal⟩

/-- Settles O26: the slot's frame rule of a step, read cell by cell. -/
theorem frameSlotIsImmutable : Obligations.FrameSlotIsImmutable := by
  intro s t h hreset hreq
  obtain ⟨hfv, hcmd, hplen, hpbuf⟩ := step_keeps_slot h hreset hreq
  exact ⟨hfv, hcmd, hplen, fun a => by rw [hpbuf]⟩

/-- Without a frame, `FRM.SER` answers InvalidState and nothing else happens (R94, R122). -/
theorem exec_frmSer_of_no_frame {s : State} (h : s.fv = false) :
    exec .frmSer s = .next (s.raise .invalidState) := by
  rcases execFrmSer_cases s with ⟨-, e⟩ | ⟨-, hfv, -⟩ | ⟨hfv, -⟩
  · exact e
  · simp [h] at hfv
  · simp [h] at hfv

/-- Settles O31: the fields are those of `State.resetWith`, and `FV` is 0 there. -/
theorem resetStateValues : Obligations.ResetStateValues := fun cfg =>
  ⟨State.resetWith_acc cfg, State.resetWith_fv cfg, State.resetWith_cfg cfg,
    exec_frmSer_of_no_frame (State.resetWith_fv cfg)⟩

end Sys2Proof.Machine
end

section
/-! PROOFS. When `decode` answers what, what a request can lead to, and the one response each operation
gives; from these the obligations O17 (R55, R123), O18 (R56) and O19 (R53). -/

namespace Sys2Proof

/-- `decode` reads the selector, `BYTE` in format B, `CMDARG` and `P` in format N, and nothing else (R56). -/
theorem decode_congr {r r' : Request} (hop : r.opsel = r'.opsel) (hbyte : r.opsel = 0x1 → r.byte = r'.byte)
    (hnew : r.opsel = 0x8 → r.cmdArg = r'.cmdArg ∧ r.src = r'.src) : decode r = decode r' := by
  unfold decode
  rw [← hop]
  split
  case h_2 h => rw [hbyte (BitVec.eq_of_toNat_eq h)]
  case h_4 h =>
    obtain ⟨hcmd, hsrc⟩ := hnew (BitVec.eq_of_toNat_eq h)
    rw [hcmd, hsrc]
  all_goals rfl

/-- A reserved selector decodes to nothing (R55). -/
theorem decode_of_reserved {r : Request} (h : r.opsel ∈ reservedSelectors) :
    decode r = .error (.reservedSelector r.opsel) := by
  rcases decode_cases r with ⟨-, e⟩ | ⟨hop, -⟩ | ⟨hop, -⟩ | ⟨hop, -⟩ | ⟨hop, -⟩ | ⟨hop, -⟩ | ⟨hop, -⟩
  case inl => exact e
  all_goals exact absurd (hop ▸ h) (by decide)

/-- Only a reserved selector decodes to nothing (R55). -/
theorem mem_reservedSelectors_of_decode {r : Request} {e : DecodeError} (h : decode r = .error e) :
    r.opsel ∈ reservedSelectors := by
  rcases decode_cases r with ⟨hres, -⟩ | ⟨-, e⟩ | ⟨-, e⟩ | ⟨-, e⟩ | ⟨-, e⟩ | ⟨-, e⟩ | ⟨-, e⟩
  case inl => exact hres
  all_goals cases h.symm.trans e

/-- The other six selectors each name an operation (R51, R55). -/
theorem exists_decode_eq_ok {r : Request} (h : r.opsel ∉ reservedSelectors) : ∃ i, decode r = .ok i := by
  cases hd : decode r with
  | error e => exact absurd (mem_reservedSelectors_of_decode hd) h
  | ok i => exact ⟨i, rfl⟩

/-- A request decodes only to the operation that `encode` gives its selector (R51, R52). -/
theorem opsel_of_decode {r : Request} {i : Instr} (h : decode r = .ok i) : r.opsel = (encode i).opsel := by
  rcases decode_cases r with ⟨-, e⟩ | ⟨hop, e⟩ | ⟨hop, e⟩ | ⟨hop, e⟩ | ⟨hop, e⟩ | ⟨hop, e⟩ | ⟨hop, e⟩ <;>
    cases h.symm.trans e
  all_goals exact hop

theorem encode_opsel_eq_crcRd_iff {i : Instr} : (encode i).opsel = 0x2 ↔ i = .crcRd := by
  cases i <;> simp [encode]

theorem encode_opsel_eq_frmSer_iff {i : Instr} : (encode i).opsel = 0x9 ↔ i = .frmSer := by
  cases i <;> simp [encode]

end Sys2Proof

namespace Sys2Proof.Machine

/-- A step with a request pending takes that request (R40). -/
theorem step_of_request {s : State} {r : Request} {rest : List HostEvent} (hin : s.inbox = .request r :: rest) :
    step s = takeRequest r { s with inbox := rest } := by
  simp only [step, hin, takeEvent]

theorem takeRequest_of_reserved {r : Request} (h : r.opsel ∈ reservedSelectors) (s : State) :
    takeRequest r s = .next (s.raise .illegalOperation) := by
  simp only [takeRequest, decode_of_reserved h]

/-- A request answered with a next state was reserved and raised IllegalOperation, or it ran its operation (R50, R55). -/
theorem takeRequest_next_cases {r : Request} {s t : State} (h : takeRequest r s = .next t) :
    (r.opsel ∈ reservedSelectors ∧ t = s.raise .illegalOperation) ∨
    ∃ i, decode r = .ok i ∧ exec i s = .next t := by
  unfold takeRequest at h
  cases hd : decode r with
  | error e =>
    rw [hd] at h
    cases h
    exact .inl ⟨mem_reservedSelectors_of_decode hd, rfl⟩
  | ok i =>
    rw [hd] at h
    dsimp only at h
    split at h
    · exact .inr ⟨i, rfl, h⟩
    · cases h

theorem header_length (m : LenHiMode) (c : Byte) (n : Word) : (header m c n).length = 6 := rfl

theorem trailer_length (v : Word) : (trailer v).length = 2 := rfl

theorem appendChecksum_length (t : CrcTable) (body : List Byte) :
    (appendChecksum t body).length = body.length + 2 := by
  rw [appendChecksum, List.length_append, trailer_length]

/-- `PBUF[0 .. PLEN)` has `PLEN` bytes (R94). -/
theorem State.payload_length {s : State} {p : List Byte} (h : s.payload = some p) : p.length = s.plen.toNat :=
  (Memory.readBytes_eq_some.1 h).1

/-- The one response of each operation (R53): never IllegalOperation (R123), `DATA` only from `CRC.RD`, `OUT`
only from a successful `FRM.SER`. -/
theorem exec_response {i : Instr} {s t : State} (h : exec i s = .next t) :
    ∃ q : Response, t.outbox = s.outbox ++ [q] ∧ q.status ≠ .illegalOperation ∧
      q.data = (if i = .crcRd then s.acc else 0) ∧
      (if i = .frmSer ∧ q.status = .ok then q.out.length = s.plen.toNat + 8 else q.out = []) := by
  cases i with
  | crcInit => cases h; exact ⟨_, rfl, by simp⟩
  | crcUpd b => cases h; exact ⟨_, rfl, by simp⟩
  | crcRd => cases h; exact ⟨_, rfl, by simp⟩
  | frmNew c p =>
    rcases execFrmNew_cases c p s with ⟨-, e⟩ | ⟨-, e⟩ <;> cases h.symm.trans e
    · exact ⟨_, rfl, by simp⟩
    · exact ⟨_, rfl, by simp⟩
  | frmSer =>
    rcases execFrmSer_cases s with ⟨-, e⟩ | ⟨p, -, hp, e⟩ | ⟨-, -, e⟩ <;> cases h.symm.trans e
    · exact ⟨_, rfl, by simp⟩
    · refine ⟨_, rfl, by simp, by simp, ?_⟩
      rw [if_pos ⟨rfl, rfl⟩, appendChecksum_length, List.length_append, header_length, State.payload_length hp]
      omega
  | frmDrop => cases h; exact ⟨_, rfl, by simp⟩

/-- Settles O17: a reserved selector is answered by `raise`, any other one by its operation's response. -/
theorem reservedSelectorsAnswerIllegalOperation : Obligations.ReservedSelectorsAnswerIllegalOperation := by
  refine ⟨rfl, fun s r rest hin => ⟨fun hres => ?_, fun hres => ⟨exists_decode_eq_ok hres, ?_⟩⟩⟩
  · rw [step_of_request hin, takeRequest_of_reserved hres]
    rfl
  · intro t q h hout
    rw [step_of_request hin] at h
    rcases takeRequest_next_cases h with ⟨hmem, -⟩ | ⟨i, -, hexec⟩
    · exact absurd hmem hres
    · obtain ⟨q', hout', hstatus, -⟩ := exec_response hexec
      have hq : q = q' := by simpa using hout.symm.trans hout'
      exact hq ▸ hstatus

/-- Settles O18: a step reads its request only through `decode`. -/
theorem unusedOperandFieldsIgnored : Obligations.UnusedOperandFieldsIgnored := by
  intro s r r' rest hop hbyte hnew
  have htake (u : State) : takeRequest r u = takeRequest r' u := by
    rw [takeRequest, takeRequest, decode_congr hop hbyte hnew]
  exact htake _

/-- Settles O19: a reserved request is answered by `raise`, any other one by its operation's response. -/
theorem eachRequestHasOneResponse : Obligations.EachRequestHasOneResponse := by
  refine ⟨fun s t r rest hin h => ?_, rfl, rfl, rfl, rfl⟩
  rw [step_of_request hin] at h
  rcases takeRequest_next_cases h with ⟨hres, rfl⟩ | ⟨i, hdec, hexec⟩
  · refine ⟨rfl, _, rfl, ?_, ?_⟩
    · rw [if_neg fun (h2 : r.opsel = 0x2) => absurd (h2 ▸ hres) (by decide)]
    · rw [if_neg (by simp)]
  · obtain ⟨-, -, -, hinbox, -⟩ := exec_next_cases hexec
    obtain ⟨q, hout, -, hdata, hlen⟩ := exec_response hexec
    simp only [opsel_of_decode hdec, encode_opsel_eq_crcRd_iff, encode_opsel_eq_frmSer_iff]
    exact ⟨hinbox, q, hout, hdata, hlen⟩

end Sys2Proof.Machine
end

section
/-! PROOFS. The frame part by part: header, payload, trailer, and the body that the checksum covers; from
these the obligation O50 (R57, R58, R97, R98). -/

namespace Sys2Proof.Machine

/-- The low byte of a length, narrowed to 16 bits first, is the length's own low byte (R58, R59). -/
theorem lowByte_lengthWord (n : Nat) : lowByte (lengthWord n) = BitVec.ofNat 8 n := by
  apply BitVec.eq_of_toNat_eq
  simp only [lowByte_toNat, lengthWord, BitVec.toNat_ofNat]
  omega

theorem highByte_lengthWord {n : Nat} (h : n ≤ 65535) : highByte (lengthWord n) = BitVec.ofNat 8 (n / 256) := by
  apply BitVec.eq_of_toNat_eq
  rw [highByte_toNat, lengthWord_toNat h, BitVec.toNat_ofNat]
  omega

/-- The high byte is the slice `[15:8]` (R59): `extractLsb'` is by definition the shift, narrowed. -/
theorem highByte_eq_extractLsb' (w : Word) : highByte w = w.extractLsb' 8 8 := highByte_eq w

theorem frameBody_length (m : LenHiMode) (c : Byte) (p : List Byte) : (frameBody m c p).length = 6 + p.length := by
  rw [frameBody, List.length_append, header_length]

/-- A frame is its body and, after it, the body's checksum (R61, R96). -/
theorem frame_eq (cfg : Config) (c : Byte) (p : List Byte) :
    frame cfg c p = frameBody cfg.lenHiMode c p ++ trailer (crc16 cfg.crcTable (frameBody cfg.lenHiMode c p)) := rfl

theorem frame_length (cfg : Config) (c : Byte) (p : List Byte) : (frame cfg c p).length = p.length + 8 := by
  rw [frame, appendChecksum_length, frameBody_length]
  omega

/-- What the checksum covers: the frame's first `6 + len(p)` bytes are its body (R98). -/
theorem frame_take_body (cfg : Config) (c : Byte) (p : List Byte) :
    (frame cfg c p).take (6 + p.length) = frameBody cfg.lenHiMode c p := by
  rw [frame_eq, ← frameBody_length cfg.lenHiMode c p, List.take_left]

/-- The payload stands at offset 6 (R58). -/
theorem frame_getElem?_payload (cfg : Config) (c : Byte) {p : List Byte} {i : Nat} (h : i < p.length) :
    (frame cfg c p)[6 + i]? = p[i]? := by
  have hbody : 6 + i < (frameBody cfg.lenHiMode c p).length := by rw [frameBody_length]; omega
  rw [frame_eq, List.getElem?_append_left hbody, frameBody, List.getElem?_append_right (by rw [header_length]; omega),
    header_length, Nat.add_sub_cancel_left]

/-- The trailer stands right after the body (R61). -/
theorem frame_getElem?_trailer (cfg : Config) (c : Byte) (p : List Byte) (k : Nat) :
    (frame cfg c p)[6 + p.length + k]? = (trailer (crc16 cfg.crcTable (frameBody cfg.lenHiMode c p)))[k]? := by
  rw [frame_eq, ← frameBody_length cfg.lenHiMode c p, List.getElem?_append_right (Nat.le_add_right _ _),
    Nat.add_sub_cancel_left]

/-- Settles O50: the header's six bytes by computation, then the payload, then the trailer of the body. -/
theorem frameLayout : Obligations.FrameLayout := by
  intro cfg c p hp
  have hlow : (frame cfg c p)[4]? = some (lowByte (lengthWord p.length)) := rfl
  have hhigh : (frame cfg c p)[5]? = some (lengthHigh cfg.lenHiMode (lengthWord p.length)) := rfl
  refine ⟨frame_length cfg c p, rfl, rfl, ?_, ?_, fun i hi => frame_getElem?_payload cfg c hi, ?_, ?_⟩
  · rw [hlow, lowByte_lengthWord]
  · rw [hhigh]
    cases cfg.lenHiMode with
    | correct => exact congrArg some (highByte_lengthWord hp)
    | legacyZero => rfl
  · rw [frame_take_body, ← lowByte_eq]
    exact frame_getElem?_trailer cfg c p 0
  · rw [frame_take_body, ← highByte_eq_extractLsb', show 7 + p.length = 6 + p.length + 1 by omega]
    exact frame_getElem?_trailer cfg c p 1

end Sys2Proof.Machine
end

section
/-! PROOFS. The checksum as a function of its table, its start value and its bytes: what `upd` computes, how
`crc16_from` treats concatenation, and why data followed by its own checksum leaves nothing; from these the
obligations O44 (R80), O45 (R81) and O46 (R84). -/

namespace Sys2Proof.Machine

@[simp] theorem crc16From_nil (t : CrcTable) (a : Word) : crc16From t a [] = a := rfl

@[simp] theorem crc16From_cons (t : CrcTable) (a : Word) (b : Byte) (s : List Byte) :
    crc16From t a (b :: s) = crc16From t (upd t a b) s := rfl

theorem crc16From_append (t : CrcTable) (a : Word) (u v : List Byte) :
    crc16From t a (u ++ v) = crc16From t (crc16From t a u) v := by
  induction u generalizing a with
  | nil => rfl
  | cons b u ih => exact ih (upd t a b)

theorem crc16_append (t : CrcTable) (u v : List Byte) : crc16 t (u ++ v) = crc16From t (crc16 t u) v :=
  crc16From_append t crcInitial u v

/-- The index is the byte `ACC[7:0] XOR b` (R72). -/
theorem crcIndex_eq (a : Word) (b : Byte) : crcIndex a b = a.setWidth 8 ^^^ b := by
  rw [crcIndex, maskedByte_eq, BitVec.setWidth_xor, BitVec.setWidth_setWidth_of_le b (by decide), BitVec.setWidth_eq]

theorem upd_eq (t : CrcTable) (a : Word) (b : Byte) :
    upd t a b = tableRead t (a.setWidth 8 ^^^ b) ^^^ (a >>> 8) := by
  rw [upd, crcIndex_eq]

/-- The byte `ACC[7:0]` selects entry 0, so with a zero entry 0 only the shift is left (R72). -/
theorem upd_self {t : CrcTable} (h : tableRead t 0 = 0) (a : Word) : upd t a (a.setWidth 8) = a >>> 8 := by
  have hentry : tableRead t 0#8 = 0#16 := h
  rw [upd_eq, BitVec.xor_self, hentry, BitVec.zero_xor]

/-- Absorbing the accumulator's own two bytes, low byte first, shifts it out (R84). -/
theorem crc16From_self {t : CrcTable} (h : tableRead t 0 = 0) (a : Word) :
    crc16From t a [a.setWidth 8, (a >>> 8).setWidth 8] = 0 := by
  rw [crc16From_cons, crc16From_cons, crc16From_nil, upd_self h, upd_self h, ← BitVec.shiftRight_add]
  exact BitVec.ushiftRight_eq_zero (le_refl 16)

/-- The zero residue of any data with its checksum appended (R84). -/
theorem crc16_appendChecksum {t : CrcTable} (h : tableRead t 0 = 0) (u : List Byte) :
    crc16 t (appendChecksum t u) = 0 := by
  rw [appendChecksum, crc16_append, trailer, lowByte_eq, highByte_eq, crc16From_self h]

theorem tableRead_tableOf (f : Nat → Word) (i : Byte) : tableRead (tableOf f) i = f i.toNat := by
  simp [tableRead, tableOf]

/-- Settles O44: with no byte absorbed, the start value stands. -/
theorem emptyInputChecksum : Obligations.EmptyInputChecksum := fun t => crc16From_nil t crcInitial

/-- Settles O45: by induction on the first piece. -/
theorem checksumComposes : Obligations.ChecksumComposes := crc16From_append

/-- Settles O46: the two bytes that follow the data are the accumulator's own; a frame ends with them. -/
theorem zeroResidue : Obligations.ZeroResidue := by
  refine ⟨fun t u h => ?_, fun cfg c p h => crc16_appendChecksum h _, ?_, ?_⟩
  · rw [crc16_append, crc16From_self h]
  · exact (tableRead_tableOf reflectedEntry 0).trans (by decide)
  · exact (tableRead_tableOf msbEntry 0).trans (by decide)

end Sys2Proof.Machine
end

section
/-! PROOFS. What each operation of the Checksum Engine does, in every state, and what a sequence of them does; from
these the obligations O1 (R71), O2 (R72), O3 (R73) and O33 (R78, R82). -/

namespace Sys2Proof

theorem decode_crcInit {r : Request} (h : r.opsel = 0x0) : decode r = .ok .crcInit := by
  rw [decode, h]
  rfl

theorem decode_crcUpd {r : Request} (h : r.opsel = 0x1) : decode r = .ok (.crcUpd r.byte) := by
  rw [decode, h]
  rfl

theorem decode_crcRd {r : Request} (h : r.opsel = 0x2) : decode r = .ok .crcRd := by
  rw [decode, h]
  rfl

end Sys2Proof

namespace Sys2Proof.Machine

theorem exec_crcInit (s : State) : exec .crcInit s = .next ((s.setAcc crcInitial).respond 0) := rfl

theorem exec_crcUpd (b : Byte) (s : State) :
    exec (.crcUpd b) s = .next ((s.setAcc (upd s.cfg.crcTable s.acc b)).respond 0) := rfl

theorem exec_crcRd (s : State) : exec .crcRd s = .next (s.respond s.acc) := rfl

/-- A word masked to its low byte is that byte's number (R72). -/
theorem setWidth_maskedByte (w : Word) : ((w &&& 0x00FF#16).setWidth 8).setWidth 16 = w &&& 0x00FF#16 := by
  have hmask : w &&& 0x00FF#16 < BitVec.twoPow 16 8 := by
    rw [BitVec.lt_def, BitVec.toNat_and, BitVec.toNat_twoPow]
    exact Nat.and_lt_two_pow w.toNat (n := 8) (by decide)
  exact BitVec.setWidth_setWidth_eq_self hmask

/-- The masked index `(ACC XOR b) & 0xFF` is the byte `ACC[7:0] XOR b` (R72). -/
theorem setWidth_xor_byte (a : Word) (b : Byte) :
    (a.setWidth 8 ^^^ b).setWidth 16 = (a ^^^ b.setWidth 16) &&& 0x00FF#16 := by
  rw [← crcIndex_eq, crcIndex, setWidth_maskedByte]

/-- The slice `ACC[15:8]` is the logical shift: the byte it keeps is all that the shift leaves (R72). -/
theorem setWidth_extractLsb'_high (a : Word) : (a.extractLsb' 8 8).setWidth 16 = a >>> 8 := by
  have ha := a.isLt
  apply BitVec.eq_of_toNat_eq
  rw [BitVec.toNat_setWidth, BitVec.extractLsb'_toNat, BitVec.toNat_ushiftRight, Nat.shiftRight_eq_div_pow]
  omega

/-- An operation that completes is followed by the rest of its sequence (R40). -/
theorem execAll_cons {i : Instr} {s t : State} (h : exec i s = .next t) (is : List Instr) :
    execAll (i :: is) s = execAll is t := by
  rw [execAll, h]

/-- Operations in sequence: what comes after a completed part runs from that part's end state (R40). -/
theorem execAll_append {is : List Instr} {s t : State} (h : execAll is s = .next t) (js : List Instr) :
    execAll (is ++ js) s = execAll js t := by
  induction is generalizing s with
  | nil => cases h; rfl
  | cons i is ih =>
    cases hi : exec i s with
    | next s' =>
      rw [execAll_cons hi] at h
      rw [List.cons_append, execAll_cons hi, ih h]
    | fault f => rw [execAll, hi] at h; cases h
    | refused r => rw [execAll, hi] at h; cases h

/-- One `CRC.UPD` per byte absorbs the bytes in order, with one OK response each (R72, R79). -/
theorem execAll_crcUpd (bytes : List Byte) (s : State) : execAll (bytes.map Instr.crcUpd) s =
    .next { s with
      acc := crc16From s.cfg.crcTable s.acc bytes
      outbox := s.outbox ++ List.replicate bytes.length ⟨.ok, 0, []⟩ } := by
  induction bytes generalizing s with
  | nil => simp [execAll]
  | cons b bytes ih =>
    rw [List.map_cons, execAll_cons (exec_crcUpd b s), ih]
    simp [State.setAcc, State.respond, State.answer, List.replicate_succ]

/-- Settles O1: the arm of `CRC.INIT` and its selector. -/
theorem crcInitStartsComputation : Obligations.CrcInitStartsComputation :=
  ⟨exec_crcInit, fun _ => decode_crcInit⟩

/-- Settles O2: the table formula in its byte form, and the index 0 of the byte `ACC[7:0]`. -/
theorem crcUpdAbsorbsByte : Obligations.CrcUpdAbsorbsByte := by
  refine ⟨fun b s => ?_, fun a b => ⟨setWidth_xor_byte a b, setWidth_extractLsb'_high a⟩, fun s h => ?_,
    fun _ => decode_crcUpd⟩
  · rw [exec_crcUpd, upd_eq, setWidth_extractLsb'_high]
    rfl
  · rw [exec_crcUpd, upd_self h]
    rfl

/-- Settles O3: the arm of `CRC.RD` and its selector. -/
theorem crcRdDeliversAccumulator : Obligations.CrcRdDeliversAccumulator :=
  ⟨exec_crcRd, fun _ => decode_crcRd⟩

/-- Settles O33: `CRC.INIT`, then the bytes absorbed from `0xFFFF`, then the read. -/
theorem crcComputeYieldsChecksum : Obligations.CrcComputeYieldsChecksum := by
  intro bytes s
  have hupds := execAll_crcUpd bytes ((s.setAcc crcInitial).respond 0)
  rw [crcCompute, execAll_cons (exec_crcInit s), execAll_append hupds, execAll_cons (exec_crcRd _)]
  simp [execAll, State.setAcc, State.respond, State.answer, crc16, List.replicate_succ]

end Sys2Proof.Machine
end

section
/-! PROOFS. What each operation of the Frame Encoder does, in every state: `FRM.NEW` on legal and on illegal operands,
`FRM.SER` as a function of the slot and the parameters, `FRM.DROP`; from these the obligations O4 (R91, R93, R121), O5
(R94, R122), O8 (R95), O9 (R109) and O11 (R102, R103). -/

namespace Sys2Proof

theorem decode_frmNew {r : Request} (h : r.opsel = 0x8) : decode r = .ok (.frmNew r.cmdArg r.src) := by
  rw [decode, h]
  rfl

theorem decode_frmSer {r : Request} (h : r.opsel = 0x9) : decode r = .ok .frmSer := by
  rw [decode, h]
  rfl

theorem decode_frmDrop {r : Request} (h : r.opsel = 0xA) : decode r = .ok .frmDrop := by
  rw [decode, h]
  rfl

end Sys2Proof

namespace Sys2Proof.Machine

/-- `FRM.NEW` with an operand out of range writes nothing (R91, R121). -/
theorem exec_frmNew_of_illegal {c : Int} {p : List Byte} (h : c < 0 ∨ 255 < c ∨ 65535 < p.length) (s : State) :
    exec (.frmNew c p) s = .next (s.raise .invalidArgument) := by
  rcases execFrmNew_cases c p s with ⟨-, e⟩ | ⟨hlegal, -⟩
  · exact e
  · omega

/-- `FRM.NEW` with legal operands writes the whole slot (R91). -/
theorem exec_frmNew_of_legal {c : Int} {p : List Byte} (h : ¬ (c < 0 ∨ 255 < c ∨ 65535 < p.length)) (s : State) :
    exec (.frmNew c p) s = .next (((((s.copyIn p).setCmd (commandByte c)).setPlen
      (lengthWord p.length)).setFrameValid).respond 0) := by
  rcases execFrmNew_cases c p s with ⟨hillegal, -⟩ | ⟨-, e⟩
  · exact absurd hillegal h
  · exact e

theorem exec_frmDrop (s : State) : exec .frmDrop s = .next (s.clearFrameValid.respond 0) := rfl

/-- With a frame whose payload reads `p`, `FRM.SER` answers `frame(CMD, p)`: `PLEN` is its length (R94, R96). -/
theorem exec_frmSer_of_payload {s : State} {p : List Byte} (hfv : s.fv = true) (hp : s.payload = some p) :
    exec .frmSer s = .next (s.respondOut (frame s.cfg s.cmd p)) := by
  have hplen : s.plen = lengthWord p.length := by
    rw [State.payload_length hp, lengthWord, BitVec.ofNat_toNat, BitVec.setWidth_eq]
  rw [exec, execFrmSer, if_pos hfv, hp, hplen]
  rfl

/-- The payload reads `p` when each of its cells does (R94). -/
theorem State.payload_eq_some {s : State} {p : List Byte} (hlen : p.length = s.plen.toNat)
    (hread : ∀ a, a < s.plen.toNat → s.pbuf.read a = p[a]?) : s.payload = some p :=
  Memory.readBytes_eq_some.2 ⟨hlen, fun k hk => by rw [Nat.zero_add, hread k hk]⟩

/-- The payload is a function of `PLEN` and `PBUF` (R94). -/
theorem State.payload_congr {s u : State} (hplen : u.plen = s.plen) (hpbuf : u.pbuf = s.pbuf) :
    u.payload = s.payload := by
  rw [State.payload, State.payload, hplen, hpbuf]

/-- Settles O4: the refusal raises, the construction writes the slot, and the narrowed operands are the operands. -/
theorem frmNewConstructsOrRefuses : Obligations.FrmNewConstructsOrRefuses := by
  refine ⟨fun c p s => ?_, fun _ => decode_frmNew⟩
  split
  next hillegal => exact exec_frmNew_of_illegal hillegal s
  next hlegal =>
    have hcmd : ((commandByte c).toNat : Int) = c := commandByte_toNat (by omega) (by omega)
    have hplen : (lengthWord p.length).toNat = p.length := lengthWord_toNat (by omega)
    have hread (a : Nat) : (Memory.ofBytes 0 p).read a = p[a]? := by simp [Memory.read_ofBytes]
    exact ⟨_, exec_frmNew_of_legal hlegal s, rfl, hcmd, hplen, fun a _ => hread a, rfl, rfl, rfl, rfl⟩

/-- Settles O5: without a frame it raises; with one, the cells below `PLEN` are the payload it serializes. -/
theorem frmSerSerializesOrFaults : Obligations.FrmSerSerializesOrFaults :=
  ⟨fun _ => exec_frmSer_of_no_frame,
    fun _ _ hfv hlen hread => exec_frmSer_of_payload hfv (State.payload_eq_some hlen hread),
    fun _ => decode_frmSer⟩

/-- Settles O8: the arm of `FRM.DROP` and its selector. -/
theorem frmDropClearsFrameValid : Obligations.FrmDropClearsFrameValid :=
  ⟨exec_frmDrop, fun _ => decode_frmDrop⟩

/-- Settles O11: the two ways `FRM.SER` can answer are decided by `FV` and the payload, and either answer is made of
the slot and the parameters. -/
theorem serializeIsIdempotent : Obligations.SerializeIsIdempotent := by
  intro s t h
  rcases execFrmSer_cases s with ⟨hfv, e⟩ | ⟨p, hfv, hp, -⟩ | ⟨-, -, e⟩
  · cases h.symm.trans e
    exact ⟨_, rfl, fun u _ ufv _ _ _ => exec_frmSer_of_no_frame (ufv.trans hfv)⟩
  · cases h.symm.trans (exec_frmSer_of_payload hfv hp)
    refine ⟨_, rfl, fun u ucfg ufv ucmd uplen upbuf => ?_⟩
    have hu := exec_frmSer_of_payload (ufv.trans hfv) ((State.payload_congr uplen upbuf).trans hp)
    rw [ucfg, ucmd] at hu
    exact hu
  · cases h.symm.trans e

/-- Settles O9: `FRM.NEW` and `FRM.DROP` update other fields only, and `FRM.SER` answers the same from every state with
the same slot and parameters. -/
theorem frameEncoderIgnoresAccumulator : Obligations.FrameEncoderIgnoresAccumulator := by
  rintro i s t v (⟨c, p, rfl⟩ | rfl | rfl) h
  · by_cases hillegal : c < 0 ∨ 255 < c ∨ 65535 < p.length
    · cases h.symm.trans (exec_frmNew_of_illegal hillegal s)
      exact ⟨rfl, exec_frmNew_of_illegal hillegal _⟩
    · cases h.symm.trans (exec_frmNew_of_legal hillegal s)
      exact ⟨rfl, exec_frmNew_of_legal hillegal _⟩
  · obtain ⟨q, rfl, hsame⟩ := serializeIsIdempotent s t h
    exact ⟨rfl, hsame { s with acc := v } rfl rfl rfl rfl rfl⟩
  · cases h.symm.trans (exec_frmDrop s)
    exact ⟨rfl, exec_frmDrop _⟩

end Sys2Proof.Machine
end

section
/-! PROOFS. Reading a frame back: the number that the length bytes hold in either mode, and the number that the trailer
holds; from these the obligations O51 (R100) and O52 (R101). -/

namespace Sys2Proof.Machine

/-- A word is its two bytes, low byte first (R35). -/
theorem lowByte_add_highByte (w : Word) : (lowByte w).toNat + 256 * (highByte w).toNat = w.toNat := by
  rw [lowByte_toNat, highByte_toNat]
  exact Nat.mod_add_div w.toNat 256

/-- In `CORRECT` mode the two length bytes hold the length (R60, R100). -/
theorem lengthField_correct {n : Nat} (h : n ≤ 65535) :
    (lowByte (lengthWord n)).toNat + 256 * (lengthHigh .correct (lengthWord n)).toNat = n :=
  (lowByte_add_highByte (lengthWord n)).trans (lengthWord_toNat h)

/-- In `LEGACY_ZERO` mode the two length bytes hold the length's low byte (R60, R100). -/
theorem lengthField_legacyZero {n : Nat} (h : n ≤ 65535) :
    (lowByte (lengthWord n)).toNat + 256 * (lengthHigh .legacyZero (lengthWord n)).toNat = n % 256 :=
  (lowByte_toNat (lengthWord n)).trans (by rw [lengthWord_toNat h])

/-- The two length bytes stand at offsets 4 and 5 (R58). -/
theorem frame_lengthBytes (cfg : Config) (c : Byte) (p : List Byte) :
    (frame cfg c p)[4]? = some (lowByte (lengthWord p.length)) ∧
    (frame cfg c p)[5]? = some (lengthHigh cfg.lenHiMode (lengthWord p.length)) := ⟨rfl, rfl⟩

/-- What stands after the frame's first `6 + len(p)` bytes is the body's trailer (R61, R101). -/
theorem frame_drop_body (cfg : Config) (c : Byte) (p : List Byte) :
    (frame cfg c p).drop (6 + p.length) = trailer (crc16 cfg.crcTable (frameBody cfg.lenHiMode c p)) := by
  rw [frame_eq, ← frameBody_length cfg.lenHiMode c p, List.drop_left]

/-- Settles O51: the length field's number in each mode; up to 255 the two agree. -/
theorem lengthFieldDecodes : Obligations.LengthFieldDecodes := by
  intro cfg c p hp
  obtain ⟨hlow, hhigh⟩ := frame_lengthBytes cfg c p
  refine ⟨_, _, hlow, hhigh, ?_⟩
  cases cfg.lenHiMode with
  | correct => exact ⟨fun _ => lengthField_correct hp, nofun, fun _ => lengthField_correct hp⟩
  | legacyZero =>
    refine ⟨nofun, fun _ => lengthField_legacyZero hp, fun hshort => ?_⟩
    rw [lengthField_legacyZero hp, Nat.mod_eq_of_lt (Nat.lt_succ_of_le hshort)]

/-- Settles O52: the bytes before the trailer are the body, whose checksum the trailer is, low byte first. -/
theorem trailerIsRecomputedChecksum : Obligations.TrailerIsRecomputedChecksum := by
  intro cfg c p
  rw [Nat.add_comm p.length 6, frame_take_body]
  exact ⟨_, _, frame_drop_body cfg c p, (lowByte_add_highByte _).symm⟩

end Sys2Proof.Machine
end

section
/-! PROOFS. The status of the one response to a request, as a function of the request and `FV`, and that a fault's
response is all its step adds; from these the obligations O20 (R124) and O21 (R120 to R123). -/

namespace Sys2Proof.Machine

/-- The status that an operation answers, from `FV` at its start (R120). -/
def operationStatus (fv : Bool) (i : Instr) : Status :=
  match i with
  | .frmNew c p => if c < 0 ∨ 255 < c ∨ 65535 < p.length then .invalidArgument else .ok
  | .frmSer => if fv = false then .invalidState else .ok
  | .crcInit | .crcUpd _ | .crcRd | .frmDrop => .ok

/-- The status that a request is answered with, from `FV` when it is taken (R120, R123). -/
def requestStatus (fv : Bool) (r : Request) : Status :=
  match decode r with
  | .error _ => .illegalOperation
  | .ok i => operationStatus fv i

theorem requestStatus_of_decode_error {r : Request} {e : DecodeError} (h : decode r = .error e) (fv : Bool) :
    requestStatus fv r = .illegalOperation := by
  rw [requestStatus, h]

theorem requestStatus_of_decode_ok {r : Request} {i : Instr} (h : decode r = .ok i) (fv : Bool) :
    requestStatus fv r = operationStatus fv i := by
  rw [requestStatus, h]

/-- `t` is `s` after one response of status `f`; if that is a fault, nothing else happened (R53, R124). -/
def AnsweredWith (f : Status) (s t : State) : Prop :=
  ∃ q : Response, t.outbox = s.outbox ++ [q] ∧ q.status = f ∧ (f ≠ .ok → t = s.raise f)

theorem answeredWith_raise (f : Status) (s : State) : AnsweredWith f s (s.raise f) :=
  ⟨_, rfl, rfl, fun _ => rfl⟩

theorem answeredWith_ok {s t : State} {d : Word} {o : List Byte} (h : t.outbox = s.outbox ++ [⟨.ok, d, o⟩]) :
    AnsweredWith .ok s t :=
  ⟨_, h, rfl, fun hok => absurd rfl hok⟩

/-- Every operation that completes answers with its status, and a fault of it writes nothing (R121, R122, R124). -/
theorem exec_answeredWith {i : Instr} {s t : State} (h : exec i s = .next t) :
    AnsweredWith (operationStatus s.fv i) s t := by
  cases i with
  | crcInit => cases h; exact answeredWith_ok rfl
  | crcUpd b => cases h; exact answeredWith_ok rfl
  | crcRd => cases h; exact answeredWith_ok rfl
  | frmNew c p =>
    by_cases hillegal : c < 0 ∨ 255 < c ∨ 65535 < p.length
    · cases h.symm.trans (exec_frmNew_of_illegal hillegal s)
      rw [operationStatus, if_pos hillegal]
      exact answeredWith_raise _ s
    · cases h.symm.trans (exec_frmNew_of_legal hillegal s)
      rw [operationStatus, if_neg hillegal]
      exact answeredWith_ok rfl
  | frmSer =>
    rcases execFrmSer_cases s with ⟨hfv, e⟩ | ⟨p, hfv, -, e⟩ | ⟨-, -, e⟩ <;> cases h.symm.trans e
    · rw [operationStatus, if_pos hfv]
      exact answeredWith_raise _ s
    · rw [operationStatus, if_neg (by simp [hfv])]
      exact answeredWith_ok rfl
  | frmDrop => cases h; exact answeredWith_ok rfl

theorem takeRequest_answeredWith {r : Request} {s t : State} (h : takeRequest r s = .next t) :
    AnsweredWith (requestStatus s.fv r) s t := by
  rcases takeRequest_next_cases h with ⟨hres, rfl⟩ | ⟨i, hdec, hexec⟩
  · rw [requestStatus_of_decode_error (decode_of_reserved hres)]
    exact answeredWith_raise _ s
  · rw [requestStatus_of_decode_ok hdec]
    exact exec_answeredWith hexec

/-- The response that a step on a request adds: its status, and all there is to the step if that is a fault. -/
theorem step_request_response {s t : State} {r : Request} {rest : List HostEvent} {q : Response}
    (hin : s.inbox = .request r :: rest) (h : step s = .next t) (hout : t.outbox = s.outbox ++ [q]) :
    q.status = requestStatus s.fv r ∧
    (q.status ≠ .ok → t = State.raise { s with inbox := rest } q.status) := by
  rw [step_of_request hin] at h
  obtain ⟨q', hout', hstatus, hfault⟩ := takeRequest_answeredWith h
  obtain rfl : q = q' := by simpa using hout.symm.trans hout'
  rw [hstatus]
  exact ⟨rfl, hfault⟩

theorem operationStatus_ne_illegalOperation (fv : Bool) (i : Instr) : operationStatus fv i ≠ .illegalOperation := by
  cases i with
  | frmNew c p => rw [operationStatus]; split <;> decide
  | frmSer => rw [operationStatus]; split <;> decide
  | crcInit | crcUpd _ | crcRd | frmDrop => exact nofun

theorem operationStatus_eq_invalidArgument_iff {fv : Bool} {i : Instr} :
    operationStatus fv i = .invalidArgument ↔
      ∃ c p, i = .frmNew c p ∧ (c < 0 ∨ 255 < c ∨ 65535 < p.length) := by
  cases i with
  | frmNew c p =>
    rw [operationStatus]
    split
    next hillegal => exact iff_of_true rfl ⟨c, p, rfl, hillegal⟩
    next hlegal =>
      refine iff_of_false nofun ?_
      rintro ⟨_, _, ⟨⟩, hillegal⟩
      exact hlegal hillegal
  | frmSer => cases fv <;> simp [operationStatus]
  | crcInit | crcUpd _ | crcRd | frmDrop => simp [operationStatus]

theorem operationStatus_eq_invalidState_iff {fv : Bool} {i : Instr} :
    operationStatus fv i = .invalidState ↔ i = .frmSer ∧ fv = false := by
  cases i with
  | frmNew c p => rw [operationStatus]; split <;> simp
  | frmSer => simp [operationStatus]
  | crcInit | crcUpd _ | crcRd | frmDrop => simp [operationStatus]

/-- IllegalOperation for a reserved selector and for nothing else (R123). -/
theorem requestStatus_eq_illegalOperation_iff {fv : Bool} {r : Request} :
    requestStatus fv r = .illegalOperation ↔ r.opsel ∈ reservedSelectors := by
  refine ⟨fun h => ?_, fun h => requestStatus_of_decode_error (decode_of_reserved h) fv⟩
  by_contra hres
  obtain ⟨i, hdec⟩ := exists_decode_eq_ok hres
  exact operationStatus_ne_illegalOperation fv i ((requestStatus_of_decode_ok hdec fv).symm.trans h)

/-- InvalidArgument for a `FRM.NEW` with an operand out of range and for nothing else (R121). -/
theorem requestStatus_eq_invalidArgument_iff {fv : Bool} {r : Request} :
    requestStatus fv r = .invalidArgument ↔
      r.opsel = 0x8 ∧ (r.cmdArg < 0 ∨ 255 < r.cmdArg ∨ 65535 < r.src.length) := by
  constructor
  · intro h
    cases hdec : decode r with
    | error e => cases h.symm.trans (requestStatus_of_decode_error hdec fv)
    | ok i =>
      rw [requestStatus_of_decode_ok hdec] at h
      obtain ⟨c, p, rfl, hillegal⟩ := operationStatus_eq_invalidArgument_iff.1 h
      obtain ⟨hop, rfl, rfl⟩ := fields_of_decode_frmNew hdec
      exact ⟨hop, hillegal⟩
  · rintro ⟨hop, hillegal⟩
    rw [requestStatus_of_decode_ok (decode_frmNew hop)]
    exact operationStatus_eq_invalidArgument_iff.2 ⟨_, _, rfl, hillegal⟩

/-- InvalidState for a `FRM.SER` without a frame and for nothing else (R122). -/
theorem requestStatus_eq_invalidState_iff {fv : Bool} {r : Request} :
    requestStatus fv r = .invalidState ↔ r.opsel = 0x9 ∧ fv = false := by
  constructor
  · intro h
    cases hdec : decode r with
    | error e => cases h.symm.trans (requestStatus_of_decode_error hdec fv)
    | ok i =>
      rw [requestStatus_of_decode_ok hdec] at h
      obtain ⟨rfl, hfv⟩ := operationStatus_eq_invalidState_iff.1 h
      exact ⟨opsel_of_decode hdec, hfv⟩
  · rintro ⟨hop, hfv⟩
    rw [requestStatus_of_decode_ok (decode_frmSer hop)]
    exact operationStatus_eq_invalidState_iff.2 ⟨rfl, hfv⟩

/-- Settles O20: a step that answers a fault is that fault's `raise`. -/
theorem faultWritesNothing : Obligations.FaultWritesNothing := by
  intro s t r rest q hin h hout hfault
  obtain ⟨-, hraise⟩ := step_request_response hin h hout
  exact hraise hfault

/-- Settles O21: the response's status is the request's, and each fault's cause is read off that. -/
theorem faultCausesAreExact : Obligations.FaultCausesAreExact := by
  intro s t r rest q hin h hout
  obtain ⟨hstatus, -⟩ := step_request_response hin h hout
  rw [hstatus]
  exact ⟨requestStatus_eq_invalidArgument_iff, requestStatus_eq_invalidState_iff,
    requestStatus_eq_illegalOperation_iff⟩

end Sys2Proof.Machine
end

section
/-! PROOFS. What the reset event does, and that `FRM.SER` completes in every state with the invariant, writing no
more than its response; from these the obligations O30 (R140) and O35 (R145). -/

namespace Sys2Proof.Machine

/-- A pending reset is taken as the reset event, in every state (R140). -/
theorem step_of_reset {s : State} {rest : List HostEvent} (hin : s.inbox = .reset :: rest) :
    step s = .next (State.resetEvent { s with inbox := rest }) := by
  rw [step, hin]
  rfl

/-- A range is readable when each of its cells holds a value (R94). -/
theorem Memory.exists_readBytes {m : Memory} {i n : Nat} (h : ∀ k < n, (m.read (i + k)).isSome) :
    ∃ p, m.readBytes i n = some p :=
  ⟨List.ofFn fun k : Fin n => (m.read (i + k)).get (h k k.isLt),
    Memory.readBytes_eq_some.2 ⟨List.length_ofFn, fun k hk => by simp [hk]⟩⟩

/-- While `FV` is 1, the invariant gives every cell below `PLEN` a value (R15, R46). -/
theorem State.Inv.exists_payload {s : State} (hinv : s.Inv) (hfv : s.fv = true) : ∃ p, s.payload = some p := by
  refine Memory.exists_readBytes fun k hk => Memory.read_isSome.2 ?_
  rw [hinv.slot hfv, Nat.zero_add]
  exact List.mem_range.2 hk

/-- The invariant speaks of the parameters, `FV`, `PLEN` and `PBUF` only, so a new `ACC` keeps it. -/
theorem State.Inv.setAcc {s : State} (h : s.Inv) (v : Word) : (s.setAcc v).Inv :=
  ⟨h.cfg_wf, h.pbuf_wf, h.slot⟩

/-- A response keeps the invariant: it is the host's (R124, R147). -/
theorem State.Inv.respond {s : State} (h : s.Inv) (d : Word) : (s.respond d).Inv :=
  ⟨h.cfg_wf, h.pbuf_wf, h.slot⟩

/-- From a state with the invariant, `FRM.SER` completes and gives a response, and that is all it does (R94, R109). -/
theorem exec_frmSer_of_inv {s : State} (hinv : s.Inv) : ∃ r, exec .frmSer s = .next (s.answer r) := by
  cases hfv : s.fv with
  | false => exact ⟨_, exec_frmSer_of_no_frame hfv⟩
  | true =>
    obtain ⟨p, hp⟩ := hinv.exists_payload hfv
    exact ⟨_, exec_frmSer_of_payload hfv hp⟩

/-- Settles O30: the reset event's fields, and `FRM.SER` without a frame. -/
theorem resetEventResetsState : Obligations.ResetEventResetsState := by
  intro s rest hin
  have hfv : (State.resetEvent { s with inbox := rest }).fv = false := State.resetEvent_fv _
  exact ⟨_, step_of_reset hin, State.resetEvent_acc _, hfv, State.resetEvent_cfg _, exec_frmSer_of_no_frame hfv⟩

/-- Settles O35: the state after `CRC.UPD a` still has the invariant, so `FRM.SER` completes there and only answers;
`CRC.UPD b` then finds `ACC` as `CRC.UPD a` left it. -/
theorem serializeKeepsChecksumInProgress : Obligations.SerializeKeepsChecksumInProgress := by
  intro a b s hinv
  obtain ⟨r, hser⟩ := exec_frmSer_of_inv
    ((((hinv.setAcc crcInitial).respond 0).setAcc (upd s.cfg.crcTable crcInitial a)).respond 0)
  rw [execAll_cons (exec_crcInit s), execAll_cons (exec_crcUpd a _)]
  simp only [State.respond_cfg, State.respond_acc, State.setAcc_cfg, State.setAcc_acc]
  rw [execAll_cons hser, execAll_cons (exec_crcUpd b _), execAll_cons (exec_crcRd _)]
  exact ⟨_, rfl, State.lastResponse_answer _ _⟩

end Sys2Proof.Machine
end

section
/-! PROOFS. The invariant kept by every operation and every event, the payload that it gives while `FV` is 1, and what
one step and a whole run keep; from these the obligations O22, O23, O6 (R94), O7 (log 5), O25 (R4, R16, R18), O28 (R147)
and O24 (R50, R126). -/

namespace Sys2Proof.Machine

/-- The invariant reads the parameters and `PBUF`, and `PLEN` only while `FV` is 1. -/
theorem State.Inv.of_slot_kept {s t : State} (h : s.Inv) (hcfg : t.cfg = s.cfg) (hpbuf : t.pbuf = s.pbuf)
    (hframe : t.fv = true → s.fv = true ∧ t.plen = s.plen) : t.Inv where
  cfg_wf := hcfg ▸ h.cfg_wf
  pbuf_wf := hpbuf ▸ h.pbuf_wf
  slot hfv := by
    obtain ⟨hs, hplen⟩ := hframe hfv
    rw [hpbuf, hplen, h.slot hs]

/-- The pending events are no part of the invariant. -/
theorem State.Inv.withInbox {s : State} (h : s.Inv) (es : List HostEvent) : State.Inv { s with inbox := es } :=
  h.of_slot_kept rfl rfl fun hfv => ⟨hfv, rfl⟩

/-- Without a frame and with no value in `PBUF`, legal parameters are all that the invariant asks (R22). -/
theorem State.inv_of_empty {s : State} (hcfg : s.cfg.wf) (hfv : s.fv = false) (hpbuf : s.pbuf = []) : s.Inv where
  cfg_wf := hcfg
  pbuf_wf := hpbuf ▸ ⟨List.Pairwise.nil, nofun⟩
  slot h := absurd (hfv.symm.trans h) (by decide)

/-- A copied payload of legal length fills exactly the cells below its length (R91, R93). -/
theorem State.inv_of_copied {s : State} {p : List Byte} (hcfg : s.cfg.wf) (hlen : p.length ≤ 65535)
    (hplen : s.plen = lengthWord p.length) (hpbuf : s.pbuf = Memory.ofBytes 0 p) : s.Inv where
  cfg_wf := hcfg
  pbuf_wf := hpbuf ▸ Memory.ofBytes_wf hlen
  slot _ := by rw [hpbuf, hplen, Memory.ofBytes_addresses, lengthWord_toNat hlen, List.range_eq_range']

theorem exec_keeps_inv {i : Instr} {s t : State} (hinv : s.Inv) (h : exec i s = .next t) : t.Inv := by
  obtain ⟨-, -, hcfg, -, hslot⟩ := exec_next_cases h
  obtain ⟨hfv, -, hplen, hpbuf⟩ | ⟨-, hfv, -, -, hpbuf, -⟩ | ⟨c, p, -, -, -, hlen, -, -, hplen, hpbuf, -⟩ := hslot
  · exact hinv.of_slot_kept hcfg hpbuf fun ht => ⟨hfv ▸ ht, hplen⟩
  · exact hinv.of_slot_kept hcfg hpbuf fun ht => absurd (hfv.symm.trans ht) (by decide)
  · exact State.inv_of_copied (hcfg ▸ hinv.cfg_wf) hlen hplen hpbuf

/-- Settles O22: a reset empties the slot, a reserved request only
answers, and any other request runs an operation. -/
theorem stepKeepsInvariant : Obligations.StepKeepsInvariant := by
  intro s t hinv h
  rcases step_next_cases h with ⟨-, rfl⟩ | ⟨rest, -, rfl⟩ | ⟨-, rest, -, -, -, rfl⟩ | ⟨-, rest, i, -, -, -, hexec⟩
  case inl => exact hinv
  case inr.inl => exact State.inv_of_empty hinv.cfg_wf (State.resetEvent_fv _) (State.resetEvent_pbuf _)
  case inr.inr.inl => exact (hinv.withInbox rest).of_slot_kept rfl rfl fun hfv => ⟨hfv, rfl⟩
  case inr.inr.inr => exact exec_keeps_inv (hinv.withInbox rest) hexec

/-- Settles O23: reset leaves no frame and no value in `PBUF`; the default widths are legal. -/
theorem resetMeetsInvariant : Obligations.ResetMeetsInvariant := by
  have hreset (cfg : Config) (hcfg : cfg.wf) : (State.resetWith cfg).Inv := State.inv_of_empty hcfg rfl rfl
  exact ⟨hreset, hreset defaultConfig ⟨by decide, by decide⟩⟩

/-- Below `PLEN` the payload is what `PBUF` reads; from there on the invariant lists no cell (R15, R46). -/
theorem State.Inv.read_eq_payload {s : State} (hinv : s.Inv) (hfv : s.fv = true) {p : List Byte}
    (hp : s.payload = some p) (a : Nat) : s.pbuf.read a = p[a]? := by
  obtain ⟨hlen, hread⟩ := Memory.readBytes_eq_some.1 hp
  by_cases ha : a < s.plen.toNat
  · rw [← hread a ha, Nat.zero_add]
  · have hunlisted : ¬ (s.pbuf.read a).isSome := by
      rw [Memory.read_isSome, hinv.slot hfv]
      exact fun hmem => ha (List.mem_range.1 hmem)
    rw [List.getElem?_eq_none (by omega), Option.not_isSome_iff_eq_none.1 hunlisted]

/-- Settles O6: the payload that the invariant gives is serialized. -/
theorem frmSerCompletesOnValidFrame : Obligations.FrmSerCompletesOnValidFrame := by
  intro s hinv hfv
  obtain ⟨p, hp⟩ := hinv.exists_payload hfv
  exact ⟨p, State.payload_length hp, hinv.read_eq_payload hfv hp, exec_frmSer_of_payload hfv hp⟩

theorem State.payload_eq_none_iff {s : State} :
    s.payload = none ↔ ∃ a, a < s.plen.toNat ∧ s.pbuf.read a = none := by
  constructor
  · intro hnone
    by_contra hall
    push Not at hall
    obtain ⟨p, hp⟩ : ∃ p, s.payload = some p := Memory.exists_readBytes fun k hk => by
      rw [Nat.zero_add]
      exact Option.isSome_iff_ne_none.2 (hall k hk)
    cases hnone.symm.trans hp
  · rintro ⟨a, ha, hread⟩
    by_contra hsome
    obtain ⟨p, hp⟩ := Option.ne_none_iff_exists'.1 hsome
    obtain ⟨hlen, hcells⟩ := Memory.readBytes_eq_some.1 hp
    have hcell := hcells a ha
    rw [Nat.zero_add, hread, List.getElem?_eq_getElem (hlen ▸ ha)] at hcell
    cases hcell

/-- Settles O7: of the three ways `FRM.SER` can end, the fault is the one without a payload. -/
theorem frmSerStopsOnUndefinedCell : Obligations.FrmSerStopsOnUndefinedCell := by
  intro s hfv
  rw [← State.payload_eq_none_iff]
  constructor
  · intro hfault
    by_contra hsome
    obtain ⟨p, hp⟩ := Option.ne_none_iff_exists'.1 hsome
    cases hfault.symm.trans (exec_frmSer_of_payload hfv hp)
  · intro hnone
    rw [exec, execFrmSer, if_pos hfv, hnone]

/-- No step writes the parameters, and the responses given stay given (R16, R18, R147). -/
theorem step_keeps_cfg_and_outbox {s t : State} (h : step s = .next t) : t.cfg = s.cfg ∧ s.outbox <+: t.outbox := by
  rcases step_next_cases h with ⟨-, rfl⟩ | ⟨rest, -, rfl⟩ | ⟨-, rest, -, -, -, rfl⟩ | ⟨-, rest, i, -, -, -, hexec⟩
  case inl => exact ⟨rfl, List.prefix_rfl⟩
  case inr.inl => exact ⟨rfl, List.prefix_rfl⟩
  case inr.inr.inl => exact ⟨rfl, List.prefix_append _ _⟩
  case inr.inr.inr =>
    obtain ⟨q, hout, hcfg, -⟩ := exec_next_cases hexec
    exact ⟨hcfg, hout ▸ List.prefix_append _ _⟩

section Run

variable {M : Host.Core} {s t : M.State}

/-- A step that goes on is the first of a run's steps. -/
theorem run_succ_of_next (h : M.step s = .next t) (n : Nat) : M.run (n + 1) s = M.run n t := by
  rw [Host.Core.run, h]

theorem run_succ_of_fault {f : M.Fault} (h : M.step s = .fault f) (n : Nat) : M.run (n + 1) s = .fault f := by
  rw [Host.Core.run, h]

theorem run_succ_of_refused {r : M.Refusal} (h : M.step s = .refused r) (n : Nat) : M.run (n + 1) s = .refused r := by
  rw [Host.Core.run, h]

/-- A run that completes is a step that completes and a run from there. -/
theorem run_succ_next {n : Nat} {u : M.State} (h : M.run (n + 1) s = .next u) :
    ∃ t, M.step s = .next t ∧ M.run n t = .next u := by
  cases hstep : M.step s with
  | next t => exact ⟨t, rfl, (run_succ_of_next hstep n).symm.trans h⟩
  | fault f => cases h.symm.trans (run_succ_of_fault hstep n)
  | refused r => cases h.symm.trans (run_succ_of_refused hstep n)

end Run

/-- What every step keeps between its two states, every run keeps between its ends. -/
theorem core_run_induction {R : State → State → Prop} (hrefl : ∀ s, R s s)
    (hstep : ∀ s t u, step s = .next t → R t u → R s u) {n : Nat} {s u : State}
    (h : Sys2Proof.core.run n s = .next u) : R s u := by
  induction n generalizing s with
  | zero => cases h; exact hrefl _
  | succ n ih =>
    obtain ⟨t, ht, hrun⟩ := run_succ_next h
    exact hstep s t u ht (ih hrun)

/-- Settles O25: no step writes the parameters. -/
theorem parametersNeverChange : Obligations.ParametersNeverChange := by
  intro n s t h
  refine core_run_induction (R := fun s t => t.cfg = s.cfg) (fun _ => rfl) (fun s t u hst hu => ?_) h
  exact hu.trans (step_keeps_cfg_and_outbox hst).1

/-- Settles O28: every step only adds responses. -/
theorem earlierResponsesStand : Obligations.EarlierResponsesStand := by
  intro n s t h
  refine core_run_induction (R := fun s t => s.outbox <+: t.outbox) (fun _ => List.prefix_rfl) (fun s t u hst hu => ?_) h
  exact (step_keeps_cfg_and_outbox hst).2.trans hu

/-- From a state with the invariant every operation completes: only `FRM.SER` could stop (log 5). -/
theorem exec_completes_of_inv {s : State} (hinv : s.Inv) (i : Instr) : ∃ t, exec i s = .next t := by
  cases i with
  | frmNew c p =>
    rcases execFrmNew_cases c p s with ⟨-, e⟩ | ⟨-, e⟩
    · exact ⟨_, e⟩
    · exact ⟨_, e⟩
  | frmSer =>
    obtain ⟨q, e⟩ := exec_frmSer_of_inv hinv
    exact ⟨_, e⟩
  | crcInit | crcUpd _ | crcRd | frmDrop => exact ⟨_, rfl⟩

/-- A pending event that can be formed is taken: the refusal is only for those that cannot (U12). -/
theorem step_completes_of_formable {s : State} (hinv : s.Inv) {e : HostEvent} {rest : List HostEvent}
    (hin : s.inbox = e :: rest) (he : e.formable s.cfg = true) : ∃ t, step s = .next t := by
  cases e with
  | reset => exact ⟨_, step_of_reset hin⟩
  | request r =>
    rw [step_of_request hin, takeRequest]
    rw [HostEvent.formable, requestFormable] at he
    cases hdec : decode r with
    | error op => exact ⟨_, rfl⟩
    | ok i =>
      rw [hdec] at he
      obtain ⟨t, ht⟩ := exec_completes_of_inv (hinv.withInbox rest) i
      exact ⟨t, (if_pos he).trans ht⟩

/-- Taking an event removes it, and adds one response for a request and none for a reset (R53, R140). -/
theorem step_takes_event {s t : State} {e : HostEvent} {rest : List HostEvent} (hin : s.inbox = e :: rest)
    (h : step s = .next t) : t.inbox = rest ∧
      t.outbox.length = s.outbox.length + [e].countP (fun e => e != .reset) := by
  cases e with
  | reset =>
    cases h.symm.trans (step_of_reset hin)
    exact ⟨rfl, rfl⟩
  | request r =>
    obtain ⟨hinbox, q, hout, -⟩ := eachRequestHasOneResponse.1 s t r rest hin h
    exact ⟨hinbox, by rw [hout]; simp⟩

/-- Settles O24: one event a step, by induction on the pending events; every step keeps the invariant and the
parameters, at which the remaining events can still be formed. -/
theorem everyPendingRequestIsAnswered : Obligations.EveryPendingRequestIsAnswered := by
  intro s
  generalize hin : s.inbox = es
  induction es generalizing s with
  | nil => exact fun _ _ => ⟨s, rfl, hin, rfl⟩
  | cons e rest ih =>
    intro hinv hformable
    obtain ⟨t, ht⟩ := step_completes_of_formable hinv hin (hformable e List.mem_cons_self)
    obtain ⟨hcfg, -⟩ := step_keeps_cfg_and_outbox ht
    obtain ⟨hinbox, hlen⟩ := step_takes_event hin ht
    obtain ⟨u, hrun, hempty, hcount⟩ := ih t hinbox (stepKeepsInvariant s t hinv ht)
      fun e he => hcfg ▸ hformable e (List.mem_cons_of_mem _ he)
    refine ⟨u, (run_succ_of_next ht rest.length).trans hrun, hempty, ?_⟩
    rw [hcount, hlen, Nat.add_assoc, ← List.countP_append, List.singleton_append]

end Sys2Proof.Machine
end

section
/-! PROOFS. The fields of a packed word and how `decodeWord` goes through `decode`, then what a step does with the
request it takes; from these the obligations O38, O39 and O40 (R52, R56) and O14 to O16, O29 and O32 (R50, R131, R140). -/

namespace Sys2Proof

/-- A packed word unpacks to the fields it was made of (R52). -/
theorem unpackRequest_packWord (op : BitVec 4) (hi lo : BitVec 32) (p : List Byte) :
    unpackRequest (packWord op hi lo) p = ⟨op, lo.extractLsb' 0 8, hi.toInt, p⟩ := by
  have hop : wordOpsel (packWord op hi lo) = op := BitVec.extractLsb'_append_eq_left
  have hcmd : wordCmdArg (packWord op hi lo) = hi := by
    rw [wordCmdArg, packWord, BitVec.extractLsb'_append_eq_of_add_le (by decide),
      BitVec.extractLsb'_append_eq_of_add_le (by decide), BitVec.extractLsb'_append_eq_left]
  have hbyte : wordByte (packWord op hi lo) = lo.extractLsb' 0 8 := by
    rw [wordByte, packWord, BitVec.extractLsb'_append_eq_of_add_le (by decide),
      BitVec.extractLsb'_append_eq_of_add_le (by decide), BitVec.extractLsb'_append_eq_of_add_le (by decide)]
  rw [unpackRequest, hop, hcmd, hbyte]

theorem wordLenArg_packWord (op : BitVec 4) (hi lo : BitVec 32) : wordLenArg (packWord op hi lo) = lo := by
  rw [wordLenArg, packWord, BitVec.extractLsb'_append_eq_of_add_le (by decide),
    BitVec.extractLsb'_append_eq_of_add_le (by decide), BitVec.extractLsb'_append_eq_right]

/-- A packed word decodes as the record it unpacks to, if in format N its `LENARG` is the payload's length (R50). -/
theorem decodeWord_of_decode {w : BitVec 72} {p : List Byte} {i : Instr} (h : decode (unpackRequest w p) = .ok i)
    (hlen : ∀ c q, i = .frmNew c q → (wordLenArg w).toNat = q.length) : decodeWord w p = .ok i := by
  rw [decodeWord, h]
  cases i with
  | frmNew c q => exact if_pos (hlen c q rfl)
  | crcInit | crcUpd _ | crcRd | frmSer | frmDrop => rfl

theorem decode_encode (i : Instr) : decode (encode i) = .ok i := by
  cases i with
  | crcInit | crcUpd _ | crcRd | frmNew _ _ | frmSer | frmDrop => rfl

theorem fitsSigned_iff {w : Nat} {c : Int} : fitsSigned w c = true ↔ -2 ^ (w - 1) ≤ c ∧ c < 2 ^ (w - 1) := by
  rw [fitsSigned, Bool.and_eq_true, decide_eq_true_eq, decide_eq_true_eq]

theorem fitsUnsigned_iff {w n : Nat} : fitsUnsigned w n = true ↔ n < 2 ^ w := decide_eq_true_iff

/-- Operands that fit 32 bits stand in the packed word with their values (R52, R54). -/
theorem decodeWord_encodeWord_frmNew {c : Int} {p : List Byte} (hc : fitsSigned 32 c = true)
    (hp : fitsUnsigned 32 p.length = true) : decodeWord (encodeWord (.frmNew c p)) p = .ok (.frmNew c p) := by
  obtain ⟨hlow, hhigh⟩ := fitsSigned_iff.1 hc
  refine decodeWord_of_decode ?_ ?_
  · rw [encodeWord, unpackRequest_packWord, BitVec.toInt_ofInt_eq_self (by decide) hlow hhigh]
    rfl
  · rintro _ _ ⟨⟩
    rw [encodeWord, wordLenArg_packWord, BitVec.toNat_ofNat, Nat.mod_eq_of_lt (fitsUnsigned_iff.1 hp)]

/-- Settles O38: the record by its selector; the packed word by its fields, of which only format N's must fit. -/
theorem decodeEncodeRoundTrip : Obligations.DecodeEncodeRoundTrip := by
  refine fun cfg i => ⟨decode_encode i, fun hcmdW hlenW hwf => ?_⟩
  cases i with
  | frmNew c p =>
    rw [Instr.wf, Bool.and_eq_true, hcmdW, hlenW] at hwf
    exact decodeWord_encodeWord_frmNew hwf.1 hwf.2
  | crcUpd b =>
    refine decodeWord_of_decode ?_ nofun
    rw [encodeWord, unpackRequest_packWord, BitVec.extractLsb'_setWidth_of_le (by decide), BitVec.extractLsb'_eq_self]
    rfl
  | crcInit | crcRd | frmSer | frmDrop =>
    refine decodeWord_of_decode ?_ nofun
    rw [encodeWord, unpackRequest_packWord]
    rfl

/-- Format N lists bits `[63:0]`: both operands are slices of them (R52). -/
theorem wordArgs_congr {w w' : BitVec 72} (h : w.extractLsb' 0 64 = w'.extractLsb' 0 64) :
    wordCmdArg w = wordCmdArg w' ∧ wordLenArg w = wordLenArg w' := by
  have hslice (start len : Nat) (hle : start + len ≤ 64) : w.extractLsb' start len = w'.extractLsb' start len := by
    rw [← BitVec.extractLsb'_extractLsb'_of_le hle, h, BitVec.extractLsb'_extractLsb'_of_le hle]
  exact ⟨hslice 32 32 (by decide), hslice 0 32 (by decide)⟩

/-- Settles O39: the record reads no other field (R56), and `LENARG` is compared only after a selector `0x8`. -/
theorem unusedWordBitsIgnored : Obligations.UnusedWordBitsIgnored := by
  intro w w' p hop hbyte hargs
  have hdec : decode (unpackRequest w p) = decode (unpackRequest w' p) :=
    decode_congr hop hbyte fun h => ⟨congrArg BitVec.toInt (wordArgs_congr (hargs h)).1, rfl⟩
  rw [decodeWord, decodeWord, ← hdec]
  split
  next hnew =>
    obtain ⟨hop8, -⟩ := fields_of_decode_frmNew hnew
    rw [(wordArgs_congr (hargs hop8)).2]
  next => rfl

/-- Settles O40: each word is decoded. -/
theorem specWordsDecode : Obligations.SpecWordsDecode :=
  ⟨by decide, by decide, by decide, by decide, by decide, by decide, by decide, by decide⟩

end Sys2Proof

namespace Sys2Proof.Machine

/-- A request that decodes and fits its widths runs its operation (R50). -/
theorem takeRequest_of_wf {r : Request} {i : Instr} {s : State} (hdec : decode r = .ok i) (hwf : i.wf s.cfg = true) :
    takeRequest r s = exec i s := by
  simp only [takeRequest, hdec, if_pos hwf]

/-- A request that decodes and does not fit its widths is refused (U12, log 2). -/
theorem takeRequest_of_not_wf {r : Request} {i : Instr} {s : State} (hdec : decode r = .ok i)
    (hwf : i.wf s.cfg = false) : takeRequest r s = .refused .unformableRequest := by
  simp only [takeRequest, hdec, hwf, Bool.false_eq_true, if_false]

/-- Settles O14: the request taken decodes and fits. -/
theorem stepRunsDecodedInstruction : Obligations.StepRunsDecodedInstruction :=
  fun _ _ _ _ hin hdec hwf => (step_of_request hin).trans (takeRequest_of_wf hdec hwf)

/-- Settles O16: the request taken decodes and does not fit. -/
theorem unformableRequestRefused : Obligations.UnformableRequestRefused :=
  fun _ _ _ _ hin hdec hwf => (step_of_request hin).trans (takeRequest_of_not_wf hdec hwf)

/-- What the decoder reads from a table's number is what the request presented for it decodes to (log 3, log 9). -/
theorem decode_of_decodeTableWord {nbits w : Nat} {i : Instr} (h : decodeTableWord nbits w = some i) :
    decode (unpackRequest (tableWord nbits w) (zeroPayload (tableWord nbits w))) = .ok i := by
  unfold decodeTableWord at h
  split at h
  next hword => exact Option.some.inj h ▸ decode_of_decodeWord hword
  next => cases h

/-- Settles O15: the presented request stands first in the inbox, and taking it leaves the inbox as it was. -/
theorem fetchWordRunsNext : Obligations.FetchWordRunsNext :=
  fun s nbits w i hdec hwf => stepRunsDecodedInstruction (s.withFetchWord nbits w) _ s.inbox i rfl
    (decode_of_decodeTableWord hdec) hwf

/-- Settles O29: the first branch of `step`. -/
theorem idleKeepsState : Obligations.IdleKeepsState := by
  intro s hin
  rw [step, hin]

/-- Settles O32: the fields of `State.resetWith`, and the reset event, which leaves the host's lists alone. -/
theorem resetModelChoices : Obligations.ResetModelChoices :=
  ⟨fun cfg => ⟨State.resetWith_cmd cfg, State.resetWith_plen cfg, Memory.read_nil, State.resetWith_inbox cfg,
    State.resetWith_outbox cfg⟩, rfl, fun _ _ hin => step_of_reset hin⟩

end Sys2Proof.Machine
end

section
/-! PROOFS. Sequences of operations around one frame: what each operation leaves of the slot, what a frame in the slot
makes of `FRM.SER`, and which sequences meet no fault; from these the obligations O10 (R70), O12 (R40, R90, R146), O13
(R146), O34 (R64), O56 (R150) and O57 (log 5). -/

namespace Sys2Proof.Machine

/-- Settles O10: each operation of the engine updates `ACC` and the responses from `ACC` and the parameters. -/
theorem checksumEngineIgnoresFrameSlot : Obligations.ChecksumEngineIgnoresFrameSlot := by
  rintro i s f c n m (rfl | ⟨b, rfl⟩ | rfl)
  · exact ⟨_, exec_crcInit s, rfl, rfl, rfl, fun _ => rfl, exec_crcInit _⟩
  · exact ⟨_, exec_crcUpd b s, rfl, rfl, rfl, fun _ => rfl, exec_crcUpd b _⟩
  · exact ⟨_, exec_crcRd s, rfl, rfl, rfl, fun _ => rfl, exec_crcRd _⟩

/-- The state that a `FRM.NEW` with legal operands leaves (R91). -/
def State.afterNew (s : State) (c : Int) (p : List Byte) : State :=
  ((((s.copyIn p).setCmd (commandByte c)).setPlen (lengthWord p.length)).setFrameValid).respond 0

theorem exec_frmNew_eq_afterNew {c : Int} {p : List Byte} (hc0 : 0 ≤ c) (hc1 : c ≤ 255) (hp : p.length ≤ 65535)
    (s : State) : exec (.frmNew c p) s = .next (s.afterNew c p) :=
  exec_frmNew_of_legal (by omega) s

/-- The slot holds the frame of `c` and `p` (R91), at parameters `cfg`. -/
structure State.HoldsFrame (s : State) (cfg : Config) (c : Byte) (p : List Byte) : Prop where
  cfg_eq : s.cfg = cfg
  fv_eq : s.fv = true
  cmd_eq : s.cmd = c
  payload_eq : s.payload = some p

theorem State.afterNew_holdsFrame (s : State) (c : Int) {p : List Byte} (hp : p.length ≤ 65535) :
    (s.afterNew c p).HoldsFrame s.cfg (commandByte c) p where
  cfg_eq := rfl
  fv_eq := rfl
  cmd_eq := rfl
  payload_eq := by
    have hplen : (s.afterNew c p).plen.toNat = p.length := lengthWord_toNat hp
    rw [State.payload, hplen]
    exact Memory.readBytes_ofBytes p

/-- A frame in the slot is what `FRM.SER` emits (R94, R96). -/
theorem State.HoldsFrame.exec_frmSer {s : State} {cfg : Config} {c : Byte} {p : List Byte} (h : s.HoldsFrame cfg c p) :
    exec .frmSer s = .next (s.respondOut (frame cfg c p)) := by
  rw [exec_frmSer_of_payload h.fv_eq h.payload_eq, h.cfg_eq, h.cmd_eq]

/-- An operation that completes and keeps the slot keeps the frame in it (R20). -/
theorem State.HoldsFrame.of_exec {s t : State} {cfg : Config} {c : Byte} {p : List Byte} (h : s.HoldsFrame cfg c p)
    {i : Instr} (hexec : exec i s = .next t) (hdrop : i ≠ .frmDrop)
    (hnew : ∀ c p, i = .frmNew c p → ¬ (0 ≤ c ∧ c ≤ 255 ∧ p.length ≤ 65535)) : t.HoldsFrame cfg c p := by
  obtain ⟨hfv, hcmd, hplen, hpbuf⟩ := exec_keeps_slot hexec hdrop hnew
  obtain ⟨-, -, hcfg, -⟩ := exec_next_cases hexec
  exact ⟨hcfg.trans h.cfg_eq, hfv.trans h.fv_eq, hcmd.trans h.cmd_eq,
    (State.payload_congr hplen hpbuf).trans h.payload_eq⟩

/-- The operations that may stand between a `FRM.NEW` and the `FRM.SER` that emits its frame (R40, R146). -/
def KeepsFrame (i : Instr) : Prop :=
  i = .crcInit ∨ (∃ b, i = .crcUpd b) ∨ i = .crcRd ∨ i = .frmSer ∨
    ∃ c p, i = .frmNew c p ∧ (c < 0 ∨ 255 < c ∨ 65535 < p.length)

theorem KeepsFrame.exec {i : Instr} (hi : KeepsFrame i) {s : State} {cfg : Config} {c : Byte} {p : List Byte}
    (h : s.HoldsFrame cfg c p) : ∃ t, exec i s = .next t ∧ t.HoldsFrame cfg c p := by
  rcases hi with rfl | ⟨b, rfl⟩ | rfl | rfl | ⟨c', p', rfl, hillegal⟩
  · exact ⟨_, exec_crcInit s, h.of_exec (exec_crcInit s) nofun nofun⟩
  · exact ⟨_, exec_crcUpd b s, h.of_exec (exec_crcUpd b s) nofun nofun⟩
  · exact ⟨_, exec_crcRd s, h.of_exec (exec_crcRd s) nofun nofun⟩
  · exact ⟨_, h.exec_frmSer, h.of_exec h.exec_frmSer nofun nofun⟩
  · refine ⟨_, exec_frmNew_of_illegal hillegal s, h.of_exec (exec_frmNew_of_illegal hillegal s) nofun ?_⟩
    rintro _ _ ⟨⟩
    omega

theorem execAll_keepsFrame {is : List Instr} (his : ∀ i ∈ is, KeepsFrame i) {s : State} {cfg : Config} {c : Byte}
    {p : List Byte} (h : s.HoldsFrame cfg c p) : ∃ t, execAll is s = .next t ∧ t.HoldsFrame cfg c p := by
  induction is generalizing s with
  | nil => exact ⟨s, rfl, h⟩
  | cons i is ih =>
    obtain ⟨t, ht, htframe⟩ := (his i List.mem_cons_self).exec h
    rw [execAll_cons ht]
    exact ih (fun j hj => his j (List.mem_cons_of_mem i hj)) htframe

/-- Settles O12: `FRM.NEW` puts the frame into the slot, the operations between keep it there, `FRM.SER` emits it. -/
theorem serializeEmitsLatestFrame : Obligations.SerializeEmitsLatestFrame := by
  intro c p is s hc0 hc1 hp his
  obtain ⟨t, ht, htframe⟩ := execAll_keepsFrame his (s.afterNew_holdsFrame c hp)
  rw [execAll_cons (exec_frmNew_eq_afterNew hc0 hc1 hp s), execAll_append ht, execAll_cons htframe.exec_frmSer]
  exact ⟨_, rfl, State.lastResponse_answer t _⟩

/-- Settles O13: the refusal leaves the slot and the parameters, of which `FRM.SER`'s response is a function (O11). -/
theorem refusedNewLeavesOlderFrame : Obligations.RefusedNewLeavesOlderFrame := by
  intro c p s q hillegal hser
  obtain ⟨q', hq', hsame⟩ := serializeIsIdempotent s _ hser
  obtain rfl : q = q' := by simpa using hq'
  have hser' := hsame (s.raise .invalidArgument) rfl rfl rfl rfl rfl
  rw [execAll_cons (exec_frmNew_of_illegal hillegal s), execAll_cons hser', execAll, State.raise_outbox,
    List.append_assoc]
  rfl

/-- The status that decides how `FRM.ENCODE` goes on is that of the response just given (R64). -/
theorem State.lastStatus_answer (s : State) (q : Response) : (s.answer q).lastStatus = some q.status := by
  rw [State.lastStatus, State.lastResponse_answer]
  rfl

/-- `FRM.ENCODE` stops at the fault of its `FRM.NEW` (R64). -/
theorem frmEncode_of_illegal {c : Int} {p : List Byte} (h : c < 0 ∨ 255 < c ∨ 65535 < p.length) (s : State) :
    frmEncode c p s = .next (s.raise .invalidArgument) := by
  have hstatus : (s.raise .invalidArgument).lastStatus = some .invalidArgument := State.lastStatus_answer s _
  simp [frmEncode, exec_frmNew_of_illegal h s, hstatus]

/-- With legal operands `FRM.ENCODE` is `FRM.NEW`, `FRM.SER` of that frame, `FRM.DROP` (R64). -/
theorem frmEncode_of_legal {c : Int} {p : List Byte} (hc0 : 0 ≤ c) (hc1 : c ≤ 255) (hp : p.length ≤ 65535) (s : State) :
    frmEncode c p s =
      .next ((((s.afterNew c p).respondOut (frame s.cfg (commandByte c) p)).clearFrameValid).respond 0) := by
  have hstatus : (s.afterNew c p).lastStatus = some .ok := State.lastStatus_answer _ _
  have hser := (s.afterNew_holdsFrame c hp).exec_frmSer
  simp only [frmEncode, exec_frmNew_eq_afterNew hc0 hc1 hp s, if_pos hstatus]
  rw [execAll_cons hser, execAll_cons (exec_frmDrop _), execAll]

/-- What the three responses of a legal `FRM.ENCODE` are (R64, R106). -/
theorem frmEncode_outbox (s : State) (c : Int) (p o : List Byte) :
    ((((s.afterNew c p).respondOut o).clearFrameValid).respond 0).outbox =
      s.outbox ++ [⟨.ok, 0, []⟩, ⟨.ok, 0, o⟩, ⟨.ok, 0, []⟩] := by
  simp [State.afterNew]

/-- Settles O34: the fault's path and the three operations' path. -/
theorem frmEncodeYieldsFrame : Obligations.FrmEncodeYieldsFrame := by
  intro c p s
  split
  next hillegal => exact frmEncode_of_illegal hillegal s
  next hlegal =>
    exact ⟨_, frmEncode_of_legal (by omega) (by omega) (by omega) s, rfl, rfl, frmEncode_outbox s c p _⟩

/-- A run stays free of faults when all its new responses are OK (R150). -/
theorem faultFree_of_outbox_append {s t : State} {qs : List Response} (hs : s.faultFree = true)
    (hout : t.outbox = s.outbox ++ qs) (hqs : ∀ q ∈ qs, q.status = .ok) : t.faultFree = true := by
  simp only [State.faultFree, List.all_eq_true, decide_eq_true_eq] at hs ⊢
  intro q hq
  rw [hout, List.mem_append] at hq
  exact hq.elim (hs q) (hqs q)

/-- Settles O56: every response of either call is OK (O33, O34). -/
theorem sourceCallsAreFaultFree : Obligations.SourceCallsAreFaultFree := by
  refine fun s hs => ⟨fun bytes => ⟨_, crcComputeYieldsChecksum bytes s, ?_⟩, fun c p hc0 hc1 hp => ?_⟩
  · refine faultFree_of_outbox_append hs rfl fun q hq => ?_
    rcases List.mem_append.1 hq with hupd | hread
    · exact congrArg Response.status (List.eq_of_mem_replicate hupd)
    · exact congrArg Response.status (List.mem_singleton.1 hread)
  · exact ⟨_, frmEncode_of_legal hc0 hc1 hp s, faultFree_of_outbox_append hs (frmEncode_outbox s c p _) (by simp)⟩

/-- Settles O57: the copied payload lists no cell from its length on. -/
theorem frmNewLeavesNoOtherCell : Obligations.FrmNewLeavesNoOtherCell := by
  refine fun c p s hc0 hc1 hp => ⟨_, exec_frmNew_eq_afterNew hc0 hc1 hp s, fun a ha => ?_⟩
  have hread : (s.afterNew c p).pbuf.read a = p[a]? := by simp [State.afterNew, Memory.read_ofBytes]
  rw [hread, List.getElem?_eq_none ha]

end Sys2Proof.Machine
end

section
/-! PROOFS. The two length bytes in both modes, the copy-in loop against `PBUF`, and the byte-by-byte emission; from
these the obligations O53 to O55 (R59, R60, R107), O37 (R91) and O36 (R108). -/

namespace Sys2Proof.Machine

/-- Settles O54: the mask keeps the low byte, and the shift has moved every bit out of it. -/
theorem legacyHighByteIsDefectExpression : Obligations.LegacyHighByteIsDefectExpression := by
  refine fun n => ⟨?_, rfl⟩
  have hshifted : (n <<< 8).setWidth 8 = 0#8 := by
    apply BitVec.eq_of_toNat_eq
    rw [BitVec.toNat_setWidth, BitVec.toNat_shiftLeft, Nat.shiftLeft_eq, BitVec.toNat_ofNat]
    omega
  rw [maskedByte_eq, hshifted]
  rfl

/-- Settles O55: a shift, narrowed, is a slice. -/
theorem lengthBytesAreSlices : Obligations.LengthBytesAreSlices :=
  fun n => ⟨highByte_eq_extractLsb' n, (lowByte_eq n).trans (BitVec.setWidth_eq_extractLsb' (by decide))⟩

/-- The `CORRECT` high byte is the `LEGACY_ZERO` one exactly up to 255 (R60). -/
theorem lengthHigh_eq_iff {n : Nat} (h : n ≤ 65535) :
    lengthHigh .correct (lengthWord n) = lengthHigh .legacyZero (lengthWord n) ↔ n ≤ 255 := by
  have hcorrect : (lengthHigh .correct (lengthWord n)).toNat = n / 256 := by
    rw [lengthHigh, highByte_toNat, lengthWord_toNat h]
  have hlegacy : (lengthHigh .legacyZero (lengthWord n)).toNat = 0 := rfl
  rw [← BitVec.toNat_inj, hcorrect, hlegacy]
  omega

/-- Settles O53: byte 5 tells the frames apart, and when it does not, the bodies are equal and so are their checksums. -/
theorem modesAgreeExactlyUpTo255 : Obligations.ModesAgreeExactlyUpTo255 := by
  intro cfg c p hp
  rw [← lengthHigh_eq_iff hp]
  constructor
  · intro hframe
    obtain ⟨-, hcorrect⟩ := frame_lengthBytes { cfg with lenHiMode := .correct } c p
    obtain ⟨-, hlegacy⟩ := frame_lengthBytes { cfg with lenHiMode := .legacyZero } c p
    exact Option.some.inj (hcorrect.symm.trans ((congrArg (·[5]?) hframe).trans hlegacy))
  · intro hhigh
    have hbody : frameBody .correct c p = frameBody .legacyZero c p := by
      rw [frameBody, frameBody, header, header, hhigh]
    exact congrArg (appendChecksum cfg.crcTable) hbody

/-- A loop of R91 that succeeds is a write that succeeds and the loop from there. -/
theorem Memory.writeBytes_cons {m m' : Memory} {i : Nat} {b : Byte} {p : List Byte}
    (h : m.writeBytes i (b :: p) = some m') : ∃ m₁, m.write i b = some m₁ ∧ m₁.writeBytes (i + 1) p = some m' := by
  rw [Memory.writeBytes] at h
  split at h
  next m₁ hwrite => exact ⟨m₁, hwrite, h⟩
  next => cases h

/-- Everything the loop of R91 does: it writes its cells, leaves the others and keeps the canonical form. -/
theorem Memory.writeBytes_spec {m m' : Memory} {i : Nat} {p : List Byte} (h : m.writeBytes i p = some m') :
    (∀ a, m'.read a = if i ≤ a ∧ a < i + p.length then p[a - i]? else m.read a) ∧ (m.wf → m'.wf) := by
  induction p generalizing m i with
  | nil =>
    cases h
    exact ⟨fun a => by rw [if_neg (by simp)], id⟩
  | cons b p ih =>
    obtain ⟨m₁, hwrite, hrest⟩ := Memory.writeBytes_cons h
    obtain ⟨-, hread, hwf⟩ := Memory.write_spec hwrite
    obtain ⟨hreadRest, hwfRest⟩ := ih hrest
    refine ⟨fun a => ?_, hwfRest ∘ hwf⟩
    rw [hreadRest, hread, List.length_cons]
    rcases Nat.lt_trichotomy a i with hlt | rfl | hgt
    · rw [if_neg (by omega), if_neg (by omega), if_neg (by omega)]
    · rw [if_neg (by omega), if_pos rfl, if_pos (by omega), Nat.sub_self, List.getElem?_cons_zero]
    · rw [if_neg (show ¬ a = i by omega), show a - i = a - (i + 1) + 1 by omega, List.getElem?_cons_succ]
      exact if_congr (by omega) rfl rfl

/-- Within the 65535 addresses of `PBUF` the loop of R91 succeeds. -/
theorem Memory.exists_writeBytes {i : Nat} {p : List Byte} (h : i + p.length ≤ pbufSize) (m : Memory) :
    ∃ m', m.writeBytes i p = some m' := by
  induction p generalizing m i with
  | nil => exact ⟨m, rfl⟩
  | cons b p ih =>
    rw [List.length_cons] at h
    have hwrite : m.write i b = some (m.put i b) := if_pos (by omega)
    rw [Memory.writeBytes, hwrite]
    exact ih (by omega) (m.put i b)

theorem Memory.put_above {m : Memory} {a : Nat} (h : ∀ c ∈ m, c.1 < a) (b : Byte) : m.put a b = m ++ [(a, b)] := by
  induction m with
  | nil => rfl
  | cons c m ih =>
    obtain ⟨k, v⟩ := c
    have hk : k < a := h (k, v) List.mem_cons_self
    rw [Memory.put, if_neg (by omega), if_neg (by omega), ih fun c hc => h c (List.mem_cons_of_mem _ hc),
      List.cons_append]

/-- Above every listed cell the loop of R91 appends its cells in ascending order. -/
theorem Memory.writeBytes_above {m : Memory} {i : Nat} {p : List Byte} (hm : ∀ c ∈ m, c.1 < i)
    (hp : i + p.length ≤ pbufSize) : m.writeBytes i p = some (m ++ Memory.ofBytes i p) := by
  induction p generalizing m i with
  | nil => rw [Memory.writeBytes, Memory.ofBytes, List.append_nil]
  | cons b p ih =>
    rw [List.length_cons] at hp
    have hwrite : m.write i b = some (m ++ [(i, b)]) := by
      rw [Memory.write, if_pos (by omega), Memory.put_above hm]
    have habove : ∀ c ∈ m ++ [(i, b)], c.1 < i + 1 := by
      intro c hc
      rcases List.mem_append.1 hc with hc | hc
      · exact Nat.lt_succ_of_lt (hm c hc)
      · exact List.mem_singleton.1 hc ▸ Nat.lt_succ_self i
    rw [Memory.writeBytes, hwrite]
    exact (ih habove (by omega)).trans (by rw [Memory.ofBytes, List.append_assoc, List.singleton_append])

/-- Settles O37: the loop's cells by `writeBytes_spec`, the model's by `read_ofBytes`; from no value at all, the loop
appends. -/
theorem copyInIsAscendingWrites : Obligations.CopyInIsAscendingWrites := by
  refine ⟨fun m p hm hp => ?_, fun s p m' h a ha => ?_, fun s p hp => ?_⟩
  · obtain ⟨m', h⟩ := Memory.exists_writeBytes (i := 0) (by simpa [pbufSize] using hp) m
    obtain ⟨hread, hwf⟩ := Memory.writeBytes_spec h
    exact ⟨m', h, hwf hm, fun a => by simpa using hread a⟩
  · obtain ⟨hread, -⟩ := Memory.writeBytes_spec h
    rw [hread, if_pos (by omega), State.copyIn_pbuf, Memory.read_ofBytes, if_pos (Nat.zero_le a)]
  · exact Memory.writeBytes_above nofun (by simpa [pbufSize] using hp)

theorem Memory.ofBytes_append (i : Nat) (p q : List Byte) :
    Memory.ofBytes i (p ++ q) = Memory.ofBytes i p ++ Memory.ofBytes (i + p.length) q := by
  induction p generalizing i with
  | nil => rfl
  | cons b p ih =>
    rw [List.cons_append, Memory.ofBytes, ih, Memory.ofBytes, List.cons_append, List.length_cons, Nat.add_right_comm,
      Nat.add_assoc]

/-- Emitting bytes in two pieces is emitting them in one (R108). -/
theorem Serializer.emitAll_append (t : CrcTable) (z : Serializer) (u v : List Byte) :
    (z.emitAll t u).emitAll t v = z.emitAll t (u ++ v) := List.foldl_append.symm

/-- From its start, the emission writes the bytes to the cells from 0 on while `SACC` absorbs them; the 17 bits of
`POS` do not wrap (R17, R108). -/
theorem Serializer.start_emitAll (t : CrcTable) {p : List Byte} (h : p.length < 2 ^ 17) :
    Serializer.start.emitAll t p = ⟨BitVec.ofNat 17 p.length, crc16 t p, Memory.ofBytes 0 p⟩ := by
  induction p using List.reverseRecOn with
  | nil => rfl
  | append_singleton p b ih =>
    rw [List.length_append, List.length_singleton] at h
    have hpos : (BitVec.ofNat 17 p.length).toNat = p.length := Nat.mod_eq_of_lt (by omega)
    rw [← Serializer.emitAll_append, ih (by omega), Serializer.emitAll, List.foldl_cons, List.foldl_nil,
      Serializer.emit, hpos, crc16_append, Memory.ofBytes_append, Nat.zero_add, List.length_append,
      List.length_singleton, BitVec.ofNat_add]
    rfl

/-- The trailer goes to the two cells after the bytes emitted (R61, R108). -/
theorem Serializer.finish_out {n : Nat} (h : n + 1 < 2 ^ 17) (v : Word) (m : Memory) :
    (Serializer.finish ⟨BitVec.ofNat 17 n, v, m⟩).out = m ++ Memory.ofBytes n (trailer v) := by
  have hpos : (BitVec.ofNat 17 n).toNat = n := Nat.mod_eq_of_lt (by omega)
  have hnext : (BitVec.ofNat 17 n + 1).toNat = n + 1 := by
    rw [BitVec.toNat_add, hpos]
    exact Nat.mod_eq_of_lt h
  simp only [Serializer.finish, hpos, hnext]
  rfl

/-- The emission is that of the body, of at most `65535 + 6` bytes, and of its trailer (R96, R108). -/
theorem emission_eq (cfg : Config) (c : Byte) {n : Word} {p : List Byte} (h : p.length = n.toNat) :
    emission cfg c n p = Serializer.finish ⟨BitVec.ofNat 17 (6 + n.toNat),
      crc16 cfg.crcTable (frameBody cfg.lenHiMode c p), Memory.ofBytes 0 (frameBody cfg.lenHiMode c p)⟩ := by
  have hword : n = lengthWord p.length := by rw [h, lengthWord, BitVec.ofNat_toNat, BitVec.setWidth_eq]
  have hlen : (frameBody cfg.lenHiMode c p).length = 6 + n.toNat := by rw [frameBody_length, h]
  have hbody : header cfg.lenHiMode c n ++ p = frameBody cfg.lenHiMode c p := by rw [frameBody, ← hword]
  have hn := n.isLt
  rw [emission, Serializer.emitAll_append, hbody, Serializer.start_emitAll _ (by omega), hlen]

/-- Settles O36: the body's emission, finished by the trailer; `POS` ends below `2 ^ 17`. -/
theorem emissionProducesFrame : Obligations.EmissionProducesFrame := by
  intro cfg c n p h
  have hn := n.isLt
  rw [emission_eq cfg c h]
  refine ⟨?_, rfl, ?_⟩
  · rw [Serializer.finish_out (by omega), frame_eq, Memory.ofBytes_append, frameBody_length, h, Nat.zero_add]
  · have hone : (1 : BitVec 17).toNat = 1 := rfl
    rw [Serializer.finish, BitVec.toNat_add, BitVec.toNat_ofNat, hone]
    omega

end Sys2Proof.Machine
end

section
/-! PROOFS. The two tables as maps linear over XOR, and the steps that generate them; from these the obligations O47
(R85), O48 and O49 (R86). -/

namespace Sys2Proof.Machine

/-- `k` if the bit shifted out is 1, else nothing: what a generation step XORs in (R74, R75). -/
def feedback (k : Word) (out : Bool) : Word := if out then k else 0

theorem feedback_xor (k : Word) (p q : Bool) : feedback k (p ^^ q) = feedback k p ^^^ feedback k q := by
  cases p <;> cases q <;> simp [feedback]

theorem reflectedStep_eq (c : Word) : reflectedStep c = c >>> 1 ^^^ feedback 0x8408 (c.getLsbD 0) := by
  cases h : c.getLsbD 0 with
  | true => exact if_pos h
  | false => exact (if_neg (ne_true_of_eq_false h)).trans BitVec.xor_zero.symm

theorem msbStep_eq (c : Word) : msbStep c = c <<< 1 ^^^ feedback 0x1021 (c.getLsbD 15) := by
  cases h : c.getLsbD 15 with
  | true => exact if_pos h
  | false => exact (if_neg (ne_true_of_eq_false h)).trans BitVec.xor_zero.symm

theorem xor_xor_xor_comm {n : Nat} (a b c d : BitVec n) : a ^^^ b ^^^ (c ^^^ d) = a ^^^ c ^^^ (b ^^^ d) := by
  ac_rfl

theorem reflectedStep_xor (c d : Word) : reflectedStep (c ^^^ d) = reflectedStep c ^^^ reflectedStep d := by
  rw [reflectedStep_eq, reflectedStep_eq, reflectedStep_eq, BitVec.getLsbD_xor, feedback_xor,
    BitVec.ushiftRight_xor_distrib, xor_xor_xor_comm]

theorem msbStep_xor (c d : Word) : msbStep (c ^^^ d) = msbStep c ^^^ msbStep d := by
  rw [msbStep_eq, msbStep_eq, msbStep_eq, BitVec.getLsbD_xor, feedback_xor, BitVec.shiftLeft_xor_distrib,
    xor_xor_xor_comm]

theorem eightTimes_xor {f : Word → Word} (hf : ∀ c d, f (c ^^^ d) = f c ^^^ f d) (c d : Word) :
    eightTimes f (c ^^^ d) = eightTimes f c ^^^ eightTimes f d := by
  simp only [eightTimes, hf]

theorem eightTimes_injective {f : Word → Word} (hf : Function.Injective f) : Function.Injective (eightTimes f) :=
  fun _ _ h => hf (hf (hf (hf (hf (hf (hf (hf h)))))))

theorem tableRead_tableReflected (i : Byte) :
    tableRead tableReflected i = eightTimes reflectedStep (i.setWidth 16) := by
  rw [tableReflected, tableRead_tableOf, reflectedEntry, BitVec.ofNat_toNat]

theorem tableRead_tableMsb1021 (i : Byte) :
    tableRead tableMsb1021 i = eightTimes msbStep (i.setWidth 16 <<< 8) := by
  rw [tableMsb1021, tableRead_tableOf, msbEntry, BitVec.ofNat_toNat]

/-- `T[i XOR j] = T[i] XOR T[j]` for all indices (R86). -/
def LinearTable (t : CrcTable) : Prop := ∀ i j : Byte, tableRead t (i ^^^ j) = tableRead t i ^^^ tableRead t j

theorem linearTable_tableReflected : LinearTable tableReflected := fun i j => by
  simp only [tableRead_tableReflected, BitVec.setWidth_xor, eightTimes_xor reflectedStep_xor]

theorem linearTable_tableMsb1021 : LinearTable tableMsb1021 := fun i j => by
  simp only [tableRead_tableMsb1021, BitVec.setWidth_xor, BitVec.shiftLeft_xor_distrib, eightTimes_xor msbStep_xor]

theorem upd_xor {t : CrcTable} (ht : LinearTable t) (a a' : Word) (b b' : Byte) :
    upd t (a ^^^ a') (b ^^^ b') = upd t a b ^^^ upd t a' b' := by
  rw [upd_eq, upd_eq, upd_eq, BitVec.setWidth_xor, xor_xor_xor_comm, ht, BitVec.ushiftRight_xor_distrib,
    xor_xor_xor_comm]

theorem crc16From_xor {t : CrcTable} (ht : LinearTable t) (a a' : Word) {u u' : List Byte} (h : u.length = u'.length) :
    crc16From t (a ^^^ a') (List.zipWith (· ^^^ ·) u u') = crc16From t a u ^^^ crc16From t a' u' := by
  induction u generalizing a a' u' with
  | nil =>
    cases u' with
    | nil => rfl
    | cons b' u' => cases h
  | cons b u ih =>
    cases u' with
    | nil => cases h
    | cons b' u' =>
      rw [List.zipWith_cons_cons, crc16From_cons, upd_xor ht]
      exact ih _ _ (Nat.succ.inj h)

/-- Settles O48: both tables are linear because their steps are; the shift is linear too. -/
theorem checksumIsLinear : Obligations.ChecksumIsLinear := by
  intro t ht
  have hlin : LinearTable t := by
    rcases ht with rfl | rfl
    · exact linearTable_tableReflected
    · exact linearTable_tableMsb1021
  exact ⟨hlin, upd_xor hlin, fun a a' _ _ => crc16From_xor hlin a a'⟩

/-- Eight generation steps on a word without a low byte only shift it (R74). -/
theorem eightTimes_reflectedStep_of_lowByte_zero {x : Word} (h : ∀ k < 8, x.getLsbD k = false) :
    eightTimes reflectedStep x = x >>> 8 := by
  have hstep (k : Nat) (hk : k < 8) : reflectedStep (x >>> k) = x >>> (k + 1) := by
    have hout : (x >>> k).getLsbD 0 = false := by rw [BitVec.getLsbD_ushiftRight, Nat.add_zero, h k hk]
    rw [reflectedStep_eq, hout, BitVec.shiftRight_add]
    exact BitVec.xor_zero
  have hfirst : reflectedStep x = x >>> 1 := hstep 0 (by decide)
  rw [eightTimes, hfirst, hstep 1 (by decide), hstep 2 (by decide), hstep 3 (by decide), hstep 4 (by decide),
    hstep 5 (by decide), hstep 6 (by decide), hstep 7 (by decide)]

/-- A word is its low byte and the rest. -/
theorem lowByte_xor_shifted (x : Word) : (x &&& 0x00FF#16) ^^^ (x >>> 8 <<< 8) = x := by
  rw [← setWidth_maskedByte, maskedByte_eq]
  ext k hk
  by_cases h8 : k < 8
  · simp [h8, hk]
  · simp [h8, show 8 + (k - 8) = k by omega, BitVec.getLsbD_eq_getElem hk]

/-- XORing a byte into a word leaves the other byte (R72). -/
theorem shiftRight_xor_byte (a : Word) (b : Byte) : (a ^^^ b.setWidth 16) >>> 8 = a >>> 8 := by
  have hbyte : b.setWidth 16 >>> 8 = 0#16 := by
    have hb := b.isLt
    apply BitVec.eq_of_toNat_eq
    rw [BitVec.toNat_ushiftRight, BitVec.toNat_setWidth, Nat.shiftRight_eq_div_pow, BitVec.toNat_ofNat]
    omega
  rw [BitVec.ushiftRight_xor_distrib, hbyte, BitVec.xor_zero]

theorem shiftRight_shiftLeft_shiftRight (x : Word) : (x >>> 8 <<< 8) >>> 8 = x >>> 8 := by
  have hx := x.isLt
  apply BitVec.eq_of_toNat_eq
  simp only [BitVec.toNat_ushiftRight, BitVec.toNat_shiftLeft, Nat.shiftRight_eq_div_pow, Nat.shiftLeft_eq]
  omega

/-- Settles O47: the table holds the eight steps of the index, and the steps on the other byte are the shift. -/
theorem reflectedUpdateIsBitSerial : Obligations.ReflectedUpdateIsBitSerial := by
  intro a b
  have hhigh : a >>> 8 = eightTimes reflectedStep ((a ^^^ b.setWidth 16) >>> 8 <<< 8) := by
    rw [eightTimes_reflectedStep_of_lowByte_zero (fun k hk => by simp [hk])]
    rw [shiftRight_shiftLeft_shiftRight, shiftRight_xor_byte]
  rw [upd_eq, tableRead_tableReflected, setWidth_xor_byte, hhigh, ← eightTimes_xor reflectedStep_xor,
    lowByte_xor_shifted]

/-- The bit shifted out comes back as the highest bit, since `0x8408` has that bit (R74). -/
theorem getLsbD_reflectedStep_highest (c : Word) : (reflectedStep c).getLsbD 15 = c.getLsbD 0 := by
  have hshift : (c >>> 1).getLsbD 15 = false := by simp
  rw [reflectedStep_eq, BitVec.getLsbD_xor, hshift, Bool.false_xor]
  cases c.getLsbD 0 <;> rfl

/-- A generation step loses nothing: its highest bit tells the bit shifted out, and so the rest (R86). -/
theorem reflectedStep_injective : Function.Injective reflectedStep := by
  intro c d h
  have hout : c.getLsbD 0 = d.getLsbD 0 := by
    rw [← getLsbD_reflectedStep_highest, h, getLsbD_reflectedStep_highest]
  have hrest : c >>> 1 = d >>> 1 := by
    rw [reflectedStep_eq, reflectedStep_eq, hout] at h
    exact (BitVec.xor_left_inj _).1 h
  refine BitVec.eq_of_getLsbD_eq fun k _ => ?_
  cases k with
  | zero => exact hout
  | succ k => rw [Nat.add_comm, ← BitVec.getLsbD_ushiftRight, hrest, BitVec.getLsbD_ushiftRight]

theorem upd_tableReflected_injective (b : Byte) : Function.Injective (fun a : Word => upd tableReflected a b) := by
  intro a a' h
  have hserial : eightTimes reflectedStep (a ^^^ b.setWidth 16) = eightTimes reflectedStep (a' ^^^ b.setWidth 16) := by
    rw [← reflectedUpdateIsBitSerial, ← reflectedUpdateIsBitSerial]
    exact h
  exact (BitVec.xor_left_inj _).1 (eightTimes_injective reflectedStep_injective hserial)

/-- The collision of R86 at the byte 0. -/
theorem upd_tableMsb1021_collision : upd tableMsb1021 0xA189 0x00 = 0x0000 ∧ upd tableMsb1021 0x0000 0x00 = 0x0000 := by
  rw [upd_eq, upd_eq, tableRead_tableMsb1021, tableRead_tableMsb1021]
  decide

/-- Settles O49: with `TABLE_REFLECTED` the update is injective on a finite type; with `TABLE_MSB1021` linearity carries
the collision at the byte 0 to every byte. -/
theorem onlyReflectedUpdateIsBijective : Obligations.OnlyReflectedUpdateIsBijective := by
  refine ⟨fun b => Finite.injective_iff_bijective.1 (upd_tableReflected_injective b), upd_tableMsb1021_collision,
    fun b hinj => ?_⟩
  have hcollision : upd tableMsb1021 0xA189 b = upd tableMsb1021 0 b :=
    calc upd tableMsb1021 0xA189 b
      _ = upd tableMsb1021 (0xA189 ^^^ 0) (0 ^^^ b) := by simp
      _ = upd tableMsb1021 0xA189 0 ^^^ upd tableMsb1021 0 b := upd_xor linearTable_tableMsb1021 _ _ _ _
      _ = upd tableMsb1021 0 b := by rw [upd_tableMsb1021_collision.1]; exact BitVec.zero_xor
  exact absurd (hinj hcollision) (by decide)

end Sys2Proof.Machine
end

section
/-! PROOFS. A platform's step changes one CORE by that CORE's own step; from this the obligations O41, O43 (R21)
and O42 (R41). -/

namespace Sys2Proof.Machine

/-- A schedule's first entry takes its step, and the rest runs from there. -/
theorem Platform.run_cons_of_step {k : Nat} {q q₁ : Platform} (h : q.step k = .next q₁) (ks : List Nat) :
    Platform.run (k :: ks) q = Platform.run ks q₁ := by
  rw [Platform.run, h]

theorem Platform.run_cons_next {k : Nat} {ks : List Nat} {q q' : Platform} (h : Platform.run (k :: ks) q = .next q') :
    ∃ q₁, q.step k = .next q₁ ∧ Platform.run ks q₁ = .next q' := by
  cases hk : q.step k with
  | next q₁ => exact ⟨q₁, rfl, (Platform.run_cons_of_step hk ks).symm.trans h⟩
  | fault f => rw [Platform.run, hk] at h; cases h
  | refused r => rw [Platform.run, hk] at h; cases h

/-- What a platform's step makes of each CORE: its own step of the one named, and nothing of the others (R21). -/
theorem Platform.step_core {k : Nat} {q q' : Platform} (h : q.step k = .next q') {j : Nat} {s : State}
    (hs : q.cores[j]? = some s) :
    (j = k → ∃ s', Sys2Proof.Machine.step s = .next s' ∧ q'.cores[j]? = some s') ∧ (j ≠ k → q'.cores[j]? = some s) := by
  obtain ⟨u, u', hu, hstep, rfl⟩ := Platform.step_next h
  constructor
  · rintro rfl
    cases hu.symm.trans hs
    exact ⟨u', hstep, List.getElem?_set_self (List.getElem?_eq_some_iff.1 hs).1⟩
  · exact fun hne => (List.getElem?_set_ne (Ne.symm hne)).trans hs

theorem Platform.run_length {ks : List Nat} {q q' : Platform} (h : Platform.run ks q = .next q') :
    q'.cores.length = q.cores.length := by
  induction ks generalizing q with
  | nil => cases h; rfl
  | cons k ks ih =>
    obtain ⟨q₁, hk, hrest⟩ := Platform.run_cons_next h
    obtain ⟨u, u', -, -, rfl⟩ := Platform.step_next hk
    exact (ih hrest).trans List.length_set

/-- A platform's run makes of each CORE what that CORE's own run makes of it alone (R21). -/
theorem Platform.run_core {ks : List Nat} {q q' : Platform} (h : Platform.run ks q = .next q') {j : Nat} {s : State}
    (hs : q.cores[j]? = some s) :
    ∃ s' : State, Sys2Proof.core.run (ks.count j) s = .next s' ∧ q'.cores[j]? = some s' := by
  induction ks generalizing q s with
  | nil => cases h; exact ⟨s, rfl, hs⟩
  | cons k ks ih =>
    obtain ⟨q₁, hk, hrest⟩ := Platform.run_cons_next h
    obtain ⟨hnamed, hother⟩ := Platform.step_core hk hs
    by_cases hjk : j = k
    · obtain ⟨s₁, hstep, hs₁⟩ := hnamed hjk
      obtain ⟨s', hrun, hs'⟩ := ih hrest hs₁
      rw [hjk, List.count_cons_self, ← hjk]
      exact ⟨s', (run_succ_of_next hstep _).trans hrun, hs'⟩
    · rw [List.count_cons_of_ne (Ne.symm hjk)]
      exact ih hrest (hother hjk)

/-- Settles O41: a CORE that the schedule does not name makes 0 steps. -/
theorem instancesAreIsolated : Obligations.InstancesAreIsolated := by
  refine fun ks q q' h => ⟨Platform.run_length h, fun j s => Platform.run_core h, fun j hj => ?_⟩
  cases hs : q.cores[j]? with
  | none => rw [List.getElem?_eq_none_iff, Platform.run_length h, ← List.getElem?_eq_none_iff, hs]
  | some s =>
    obtain ⟨s', hrun, hs'⟩ := Platform.run_core h hs
    rw [List.count_eq_zero_of_not_mem hj] at hrun
    cases hrun
    exact hs'

/-- Steps of two different COREs commute (R41). -/
theorem Platform.step_comm {a b : Nat} (hab : a ≠ b) {q q₁ q₂ : Platform} (ha : q.step a = .next q₁)
    (hb : q₁.step b = .next q₂) : ∃ q₁', q.step b = .next q₁' ∧ q₁'.step a = .next q₂ := by
  obtain ⟨s, s', hs, hstepA, rfl⟩ := Platform.step_next ha
  obtain ⟨u, u', hu, hstepB, rfl⟩ := Platform.step_next hb
  rw [List.getElem?_set_ne hab] at hu
  refine ⟨_, Platform.step_of_core hu hstepB, ?_⟩
  rw [List.set_comm _ _ hab]
  exact Platform.step_of_core ((List.getElem?_set_ne hab.symm).trans hs) hstepA

/-- Settles O42: by induction on the permutation; the swap is `Platform.step_comm`. -/
theorem interleavingDoesNotMatter : Obligations.InterleavingDoesNotMatter := by
  intro ks ks' q q' hperm h
  induction hperm generalizing q with
  | nil => exact h
  | cons k _ ih =>
    obtain ⟨q₁, hk, hrest⟩ := Platform.run_cons_next h
    exact (Platform.run_cons_of_step hk _).trans (ih q₁ hrest)
  | swap a b ks =>
    by_cases hab : b = a
    · exact hab ▸ h
    · obtain ⟨q₁, hb, hrest⟩ := Platform.run_cons_next h
      obtain ⟨q₂, ha, hend⟩ := Platform.run_cons_next hrest
      obtain ⟨q₁', ha', hb'⟩ := Platform.step_comm hab hb ha
      rw [Platform.run_cons_of_step ha', Platform.run_cons_of_step hb', hend]
  | trans _ _ ih₁ ih₂ => exact ih₂ q (ih₁ q h)

/-- Every CORE after a run was there before it, with the same parameters (R16, R18, R21). -/
theorem Platform.run_keeps_cfg {ks : List Nat} {q q' : Platform} (h : Platform.run ks q = .next q') {s' : State}
    (hs' : s' ∈ q'.cores) : ∃ s ∈ q.cores, s'.cfg = s.cfg := by
  obtain ⟨j, hj, rfl⟩ := List.getElem_of_mem hs'
  have hj₀ : j < q.cores.length := Platform.run_length h ▸ hj
  obtain ⟨u, hrun, hu⟩ := Platform.run_core h (List.getElem?_eq_getElem hj₀)
  obtain rfl : q'.cores[j] = u := Option.some.inj ((List.getElem?_eq_getElem hj).symm.trans hu)
  exact ⟨_, List.getElem_mem hj₀, parametersNeverChange _ _ _ hrun⟩

/-- Settles O43: the ROM is a parameter, and each CORE keeps its parameters. -/
theorem romStaysShared : Obligations.RomStaysShared := by
  intro ks q q' hshared h s' hs' t' ht'
  obtain ⟨s, hs, hscfg⟩ := Platform.run_keeps_cfg h hs'
  obtain ⟨t, ht, htcfg⟩ := Platform.run_keeps_cfg h ht'
  rw [hscfg, htcfg]
  exact hshared s hs t ht

end Sys2Proof.Machine
end

section
/-! PROOFS. Two states that no response can tell apart stay so, operation by operation and over a whole run; from this
the obligation O27 (R22, U3). -/

namespace Sys2Proof.Machine

/-- The same kind of outcome: next states that no response tells apart, or the same stop. -/
inductive SameOutcome : Host.Outcome State Fault Refusal → Host.Outcome State Fault Refusal → Prop where
  | next {s t : State} (h : s.SameReadable t) : SameOutcome (.next s) (.next t)
  | fault (f : Fault) : SameOutcome (.fault f) (.fault f)
  | refused (r : Refusal) : SameOutcome (.refused r) (.refused r)

theorem SameOutcome.of_next {s : State} {o : Host.Outcome State Fault Refusal} (h : SameOutcome (.next s) o) :
    ∃ t, o = .next t ∧ s.SameReadable t := by
  cases h with
  | next h => exact ⟨_, rfl, h⟩

theorem SameOutcome.of_fault {f : Fault} {o : Host.Outcome State Fault Refusal} (h : SameOutcome (.fault f) o) :
    o = .fault f := by
  cases h with
  | fault => rfl

theorem SameOutcome.of_refused {r : Refusal} {o : Host.Outcome State Fault Refusal} (h : SameOutcome (.refused r) o) :
    o = .refused r := by
  cases h with
  | refused => rfl

theorem SameOutcome.of_eq {o o' x x' : Host.Outcome State Fault Refusal} (ho : o = x) (ho' : o' = x')
    (h : SameOutcome x x') : SameOutcome o o' :=
  ho ▸ ho' ▸ h

section SameReadable

variable {s t : State}

theorem State.SameReadable.refl (s : State) : s.SameReadable s :=
  ⟨rfl, rfl, rfl, rfl, rfl, fun _ => ⟨rfl, rfl, rfl⟩⟩

theorem SameOutcome.refl (o : Host.Outcome State Fault Refusal) : SameOutcome o o := by
  cases o with
  | next s => exact .next (.refl s)
  | fault f => exact .fault f
  | refused r => exact .refused r

/-- While `FV` is 1 the slot is readable, so there is nothing left to differ in. -/
theorem State.SameReadable.eq_of_frame (h : s.SameReadable t) (hfv : s.fv = true) : s = t := by
  obtain ⟨hcfg, hacc, hfv', hin, hout, hslot⟩ := h
  obtain ⟨hcmd, hplen, hpbuf⟩ := hslot hfv
  cases s
  cases t
  exact State.mk.injEq .. ▸ ⟨hcfg, hacc, hfv', hcmd, hplen, hpbuf, hin, hout⟩

theorem State.SameReadable.setAcc (h : s.SameReadable t) (v : Word) : (s.setAcc v).SameReadable (t.setAcc v) :=
  ⟨h.cfg, rfl, h.fv, h.inbox, h.outbox, h.slot⟩

theorem State.SameReadable.answer (h : s.SameReadable t) (q : Response) : (s.answer q).SameReadable (t.answer q) :=
  ⟨h.cfg, h.acc, h.fv, h.inbox, congrArg (· ++ [q]) h.outbox, h.slot⟩

theorem State.SameReadable.withInbox (h : s.SameReadable t) (es : List HostEvent) :
    State.SameReadable { s with inbox := es } { t with inbox := es } :=
  ⟨h.cfg, h.acc, h.fv, rfl, h.outbox, h.slot⟩

/-- `FRM.NEW` writes the whole slot, so nothing of the older one is left (R91). -/
theorem State.SameReadable.afterNew (h : s.SameReadable t) (c : Int) (p : List Byte) :
    (s.afterNew c p).SameReadable (t.afterNew c p) :=
  ⟨h.cfg, h.acc, rfl, h.inbox, congrArg (· ++ [_]) h.outbox, fun _ => ⟨rfl, rfl, rfl⟩⟩

theorem State.SameReadable.clearFrameValid (h : s.SameReadable t) :
    s.clearFrameValid.SameReadable t.clearFrameValid :=
  ⟨h.cfg, h.acc, rfl, h.inbox, h.outbox, nofun⟩

theorem State.SameReadable.resetEvent (h : s.SameReadable t) : s.resetEvent.SameReadable t.resetEvent :=
  ⟨h.cfg, rfl, rfl, h.inbox, h.outbox, nofun⟩

/-- No operation tells the two states apart: `FRM.SER` alone reads the slot, and only while `FV` is 1 (R94). -/
theorem exec_sameOutcome (h : s.SameReadable t) (i : Instr) : SameOutcome (exec i s) (exec i t) := by
  cases i with
  | crcInit => exact .next ((h.setAcc _).answer _)
  | crcUpd b =>
    rw [exec_crcUpd, exec_crcUpd, h.cfg, h.acc]
    exact .next ((h.setAcc _).answer _)
  | crcRd =>
    rw [exec_crcRd, exec_crcRd, h.acc]
    exact .next (h.answer _)
  | frmNew c p =>
    by_cases hillegal : c < 0 ∨ 255 < c ∨ 65535 < p.length
    · rw [exec_frmNew_of_illegal hillegal, exec_frmNew_of_illegal hillegal]
      exact .next (h.answer _)
    · rw [exec_frmNew_of_legal hillegal, exec_frmNew_of_legal hillegal]
      exact .next (h.afterNew c p)
  | frmSer =>
    cases hfv : s.fv with
    | true => exact h.eq_of_frame hfv ▸ .refl _
    | false =>
      rw [exec_frmSer_of_no_frame hfv, exec_frmSer_of_no_frame (h.fv ▸ hfv)]
      exact .next (h.answer _)
  | frmDrop => exact .next (h.clearFrameValid.answer _)

theorem takeRequest_sameOutcome (h : s.SameReadable t) (r : Request) :
    SameOutcome (takeRequest r s) (takeRequest r t) := by
  cases hdec : decode r with
  | error e =>
    have hres := mem_reservedSelectors_of_decode hdec
    rw [takeRequest_of_reserved hres, takeRequest_of_reserved hres]
    exact .next (h.answer _)
  | ok i =>
    cases hwf : i.wf s.cfg with
    | true =>
      rw [takeRequest_of_wf hdec hwf, takeRequest_of_wf hdec (h.cfg ▸ hwf)]
      exact exec_sameOutcome h i
    | false =>
      rw [takeRequest_of_not_wf hdec hwf, takeRequest_of_not_wf hdec (h.cfg ▸ hwf)]
      exact .refused _

theorem step_sameOutcome (h : s.SameReadable t) : SameOutcome (step s) (step t) := by
  cases hin : s.inbox with
  | nil =>
    rw [idleKeepsState s hin, idleKeepsState t (h.inbox ▸ hin)]
    exact .next h
  | cons e rest =>
    cases e with
    | reset =>
      rw [step_of_reset hin, step_of_reset (h.inbox ▸ hin)]
      exact .next (h.withInbox rest).resetEvent
    | request r =>
      rw [step_of_request hin, step_of_request (h.inbox ▸ hin)]
      exact takeRequest_sameOutcome (h.withInbox rest) r

theorem core_run_sameOutcome (h : s.SameReadable t) (n : Nat) :
    SameOutcome (Sys2Proof.core.run n s) (Sys2Proof.core.run n t) := by
  induction n generalizing s t with
  | zero => exact .next h
  | succ n ih =>
    have hsame := step_sameOutcome h
    cases hs : step s with
    | next s' =>
      obtain ⟨t', ht, h'⟩ := SameOutcome.of_next (hs ▸ hsame)
      exact .of_eq (run_succ_of_next hs n) (run_succ_of_next ht n) (ih h')
    | fault f =>
      have ht := SameOutcome.of_fault (hs ▸ hsame)
      exact .of_eq (run_succ_of_fault hs n) (run_succ_of_fault ht n) (.fault f)
    | refused r =>
      have ht := SameOutcome.of_refused (hs ▸ hsame)
      exact .of_eq (run_succ_of_refused hs n) (run_succ_of_refused ht n) (.refused r)

end SameReadable

/-- Settles O27: the two runs have the same kind of outcome. -/
theorem unreadableSlotIsInvisible : Obligations.UnreadableSlotIsInvisible := by
  intro n s t h
  have hrun := core_run_sameOutcome h n
  refine ⟨fun s' hs => ?_, fun f hs => ?_, fun r hs => ?_⟩
  · exact SameOutcome.of_next (hs ▸ hrun)
  · exact SameOutcome.of_fault (hs ▸ hrun)
  · exact SameOutcome.of_refused (hs ▸ hrun)

end Sys2Proof.Machine
end
